-- ==== Sys2Proof/Word.lean ====
section
/-! DEFINITION. The two word types of the spec's notation (`00_scope.md` section 5): `u8` and `u16`. -/

namespace Sys2Proof

/-- `u8`: an unsigned 8-bit value. -/
abbrev Byte := BitVec 8

/-- `u16`: an unsigned 16-bit value, a cartridge address or a bank number. -/
abbrev Half := BitVec 16

end Sys2Proof
end

