-- ==== Sys2Proof/Config.lean ====
section
/-! DEFINITION. The event vocabulary of R7, the fixed constants of R5, the open parameters of R6, and the free values:
what the spec leaves to the environment or to the implementation. Every `opaque` constant here has no body, so nothing
can be proved of its value. -/

namespace Sys2Proof

/-- The five one-bit output pins that have a level register (R10). -/
inductive Pin where
  | srData
  | srClk
  | srLatch
  | rdN
  | wrN
  deriving DecidableEq, Repr

/-- The common direction of the eight data lines, `DIR` (R11). -/
inductive Dir where
  | input
  | output
  deriving DecidableEq, Repr

/-- The observable events (R7). A vector of data lines is indexed by PIN: bit `p` is the level of `DQ[p]`.
A time is in nanoseconds (log 9). -/
inductive Event where
  /-- `Set(pin, b)` -/
  | set (p : Pin) (b : Bool)
  /-- `SetDQ(v)` -/
  | setDQ (v : BitVec 8)
  /-- `SetDir(d)` -/
  | setDir (d : Dir)
  /-- `Sample(v)` -/
  | sample (v : BitVec 8)
  /-- `Delay(T)` -/
  | delay (t : Nat)
  /-- `Rx(b)` -/
  | rx (b : Byte)
  /-- `Tx(b)` -/
  | tx (b : Byte)
  /-- `Fault(code)` -/
  | fault (code : BitVec 3)
  deriving DecidableEq, Repr

namespace Config

/-- `SYNC` (R5). -/
def sync : Byte := 0xCA
/-- `ACK_CHUNK` (R5). -/
def ackChunkByte : Byte := 0xAB
/-- `END_BANK` (R5). -/
def endBankByte : Byte := 0xAA
/-- `HEADER_BASE` (R5). -/
def headerBase : Nat := 0x100
/-- `HEADER_LEN` (R5). -/
def headerLen : Nat := 64
/-- `ROM0_BASE` (R5). -/
def rom0Base : Half := 0x0000
/-- `ROMX_BASE` (R5). -/
def romxBase : Half := 0x4000
/-- `RAM_BASE` (R5). -/
def ramBase : Half := 0xA000
/-- `RAM_ENABLE` (R5). -/
def ramEnable : Byte := 0x0A
/-- `RAM_DISABLE` (R5). -/
def ramDisable : Byte := 0x00
/-- `T_WR_SETUP` (R5): 2 ms, in nanoseconds. -/
def tWrSetup : Nat := 2000000
/-- `T_WR_PULSE` (R5): 2 ms, in nanoseconds. -/
def tWrPulse : Nat := 2000000

/-- The open parameters of R6. `fClk` is in hertz, `tRdSettle` in nanoseconds (log 9, log 10). -/
structure Params where
  /-- `F_CLK` -/
  fClk : Nat
  /-- `T_RD_SETTLE` -/
  tRdSettle : Nat
  /-- `OFF_TYPE` -/
  offType : Fin 64
  /-- `OFF_ROM` -/
  offRom : Fin 64
  /-- `OFF_RAM` -/
  offRam : Fin 64
  deriving DecidableEq, Repr, Inhabited

/-- The constraints of R6: a positive frequency, three pairwise distinct offsets. -/
def Params.wf (p : Params) : Bool :=
  0 < p.fClk && p.offType ≠ p.offRom && p.offType ≠ p.offRam && p.offRom ≠ p.offRam

/-- An implementation's choice of the open parameters: free (log 10). -/
opaque drawnParams : Params

/-- The open parameters after reset: any choice that meets R6's constraints. The alternative is reached only by a draw
that R6 excludes, so it adds no choice of its own (log 10). -/
def params : Params :=
  if drawnParams.wf then drawnParams
  else { fClk := 1, tRdSettle := 0, offType := 0, offRom := 1, offRam := 2 }

/-- `CartRead : history × u16 → u8` (R33): the byte the cartridge drives, given everything that has happened on the pins
and the address in the external latch. Free: claims hold for every oracle (log 6). -/
opaque cartRead : List Event → Half → Byte

/-- What the data lines carry when nothing drives them (R33, D27): free (log 6). The byte is taken through the same
wiring as a cartridge byte, so all 256 patterns of levels are possible. -/
opaque undriven : List Event → Byte

/-- The external shift stage `Q` when the block is reset (R25, U2): any value (log 5). -/
opaque extQ0 : Half

/-- The external address latch `A` when the block is reset (R25, U2): any value (log 5). -/
opaque extA0 : Half

end Config
end Sys2Proof
end

