-- ==== Sys2Proof/Syntax.lean ====
section
/-! DEFINITION. The operations of the block: one constructor per row of `spec/opcode_table.json`, in the table's order.
A row with a mask carries the bits outside the mask, so that no bit of an encoding is dropped. -/

namespace Sys2Proof

/-- The closed set of MBC variants (R16). -/
inductive Variant where
  | romOnly
  | mbc1
  | mbc2
  | mbc3
  | mbc5
  deriving DecidableEq, Repr

/-- The block's faults, complete (R102). -/
inductive FaultCode where
  | unsupportedOperation
  | unknownCartridgeType
  | unknownRamSize
  | romSizeOutOfRange
  deriving DecidableEq, Repr

/-- The rows of the opcode table. -/
inductive Instr where
  /-- `SYNC`, format `SYNC8`, R92: the byte scanned in `IDLE`, match 0xCA, mask 0xFF. -/
  | sync
  /-- `IDLE.DISCARD.00_80`, format `SYNC8`, R92: the byte scanned in `IDLE`, match 0x00, mask 0x80; `low` is its 7 bits outside the mask. -/
  | idleDiscard00 (low : BitVec 7)
  /-- `IDLE.DISCARD.80_C0`, format `SYNC8`, R92: the byte scanned in `IDLE`, match 0x80, mask 0xC0; `low` is its 6 bits outside the mask. -/
  | idleDiscard80 (low : BitVec 6)
  /-- `IDLE.DISCARD.C0_F8`, format `SYNC8`, R92: the byte scanned in `IDLE`, match 0xC0, mask 0xF8; `low` is its 3 bits outside the mask. -/
  | idleDiscardC0 (low : BitVec 3)
  /-- `IDLE.DISCARD.C8_FE`, format `SYNC8`, R92: the byte scanned in `IDLE`, match 0xC8, mask 0xFE; `low` is its 1 bit outside the mask. -/
  | idleDiscardC8 (low : BitVec 1)
  /-- `IDLE.DISCARD.CB_FF`, format `SYNC8`, R92: the byte scanned in `IDLE`, match 0xCB, mask 0xFF. -/
  | idleDiscardCB
  /-- `IDLE.DISCARD.CC_FC`, format `SYNC8`, R92: the byte scanned in `IDLE`, match 0xCC, mask 0xFC; `low` is its 2 bits outside the mask. -/
  | idleDiscardCC (low : BitVec 2)
  /-- `IDLE.DISCARD.D0_F0`, format `SYNC8`, R92: the byte scanned in `IDLE`, match 0xD0, mask 0xF0; `low` is its 4 bits outside the mask. -/
  | idleDiscardD0 (low : BitVec 4)
  /-- `IDLE.DISCARD.E0_E0`, format `SYNC8`, R92: the byte scanned in `IDLE`, match 0xE0, mask 0xE0; `low` is its 5 bits outside the mask. -/
  | idleDiscardE0 (low : BitVec 5)
  /-- `DUMPHDR`, format `CMD8`, R95: the command byte, match 0x00, mask 0xFF. -/
  | dumpHdr
  /-- `DUMPROM`, format `CMD8`, R96: the command byte, match 0x01, mask 0xFF. -/
  | dumpRom
  /-- `DUMPRAM`, format `CMD8`, R97: the command byte, match 0x02, mask 0xFF. -/
  | dumpRam
  /-- `FLASHRAM`, format `CMD8`, R98: the command byte, match 0x04, mask 0xFF. -/
  | flashRam
  /-- `NOP.03_FF`, format `CMD8`, R94: the command byte, match 0x03, mask 0xFF. -/
  | nop03
  /-- `NOP.05_FF`, format `CMD8`, R94: the command byte, match 0x05, mask 0xFF. -/
  | nop05
  /-- `NOP.06_FE`, format `CMD8`, R94: the command byte, match 0x06, mask 0xFE; `low` is its 1 bit outside the mask. -/
  | nop06 (low : BitVec 1)
  /-- `NOP.08_F8`, format `CMD8`, R94: the command byte, match 0x08, mask 0xF8; `low` is its 3 bits outside the mask. -/
  | nop08 (low : BitVec 3)
  /-- `NOP.10_F0`, format `CMD8`, R94: the command byte, match 0x10, mask 0xF0; `low` is its 4 bits outside the mask. -/
  | nop10 (low : BitVec 4)
  /-- `NOP.20_E0`, format `CMD8`, R94: the command byte, match 0x20, mask 0xE0; `low` is its 5 bits outside the mask. -/
  | nop20 (low : BitVec 5)
  /-- `NOP.40_C0`, format `CMD8`, R94: the command byte, match 0x40, mask 0xC0; `low` is its 6 bits outside the mask. -/
  | nop40 (low : BitVec 6)
  /-- `NOP.80_80`, format `CMD8`, R94: the command byte, match 0x80, mask 0x80; `low` is its 7 bits outside the mask. -/
  | nop80 (low : BitVec 7)
  /-- `ACK_CHUNK`, format `TX8`, R98. -/
  | ackChunk
  /-- `END_BANK`, format `TX8`, R98. -/
  | endBank
  /-- `ENABLE_RAM`, format `MBCW24`, R73. -/
  | enableRam
  /-- `DISABLE_RAM`, format `MBCW24`, R74. -/
  | disableRam
  /-- `MBC1.ROM.W1`, format `MBCW24`, R77: `b` is bank[4:0]. -/
  | mbc1RomW1 (b : BitVec 5)
  /-- `MBC1.ROM.W2`, format `MBCW24`, R77: `h` is bank[9:8]. -/
  | mbc1RomW2 (h : BitVec 2)
  /-- `MBC1.RAM`, format `MBCW24`, R78: `r` is bank[1:0]. -/
  | mbc1Ram (r : BitVec 2)
  /-- `MBC2.ROM`, format `MBCW24`, R79: `b` is bank[3:0]. -/
  | mbc2Rom (b : BitVec 4)
  /-- `MBC3.ROM`, format `MBCW24`, R81: `b` is bank[6:0]. -/
  | mbc3Rom (b : BitVec 7)
  /-- `MBC3.RAM`, format `MBCW24`, R82: `r` is bank[1:0]. -/
  | mbc3Ram (r : BitVec 2)
  /-- `MBC5.ROM.W1`, format `MBCW24`, R83: `h` is bank[8]. -/
  | mbc5RomW1 (h : BitVec 1)
  /-- `MBC5.ROM.W2`, format `MBCW24`, R83: `b` is bank[7:0]. -/
  | mbc5RomW2 (b : BitVec 8)
  /-- `MBC5.RAM`, format `MBCW24`, R84: `r` is bank[3:0]. -/
  | mbc5Ram (r : BitVec 4)
  /-- `set_address`, format `SHIFT16`, R55: `a` is addr[15:0]. -/
  | setAddress (a : Half)
  /-- `shift_bit`, format `SHIFT1`, R56: `b` is one address bit on SR_DATA. -/
  | shiftBit (b : Bool)
  /-- `db_write`, format `DBUS8`, R62: `v` is value[7:0]. -/
  | dbWrite (v : Byte)
  /-- `db_read`, format `DBUS8`, R61: no operand; the eight bits of the row are the byte it returns. -/
  | dbRead
  /-- `read_byte`, format `BUSRD16`, R65: `a` is addr[15:0]. -/
  | readByte (a : Half)
  /-- `write_byte`, format `BUSWR24`, R66: `a` is addr[15:0]; `v` is value[7:0]. -/
  | writeByte (a : Half) (v : Byte)
  /-- `to_output`, format `OP`, R59. -/
  | toOutput
  /-- `to_input`, format `OP`, R60. -/
  | toInput
  /-- `read_block`, format `OP`, R67: `a` is the block's first address. -/
  | readBlock (a : Half)
  /-- `Delay`, format `OP`, R68: `t` is the time T, in nanoseconds. -/
  | delay (t : Nat)
  /-- `select_rom_bank`, format `OP`, R72: `n` is the bank number. -/
  | selectRomBank (n : Half)
  /-- `select_ram_bank`, format `OP`, R72: `n` is the bank number. -/
  | selectRamBank (n : Byte)
  /-- `RomOnly.ROM`, format `OP`, R75: `n` is the bank number. -/
  | romOnlyRom (n : Half)
  /-- `RomOnly.RAM`, format `OP`, R76: `n` is the bank number. -/
  | romOnlyRam (n : Byte)
  /-- `MBC2.RAM`, format `OP`, R80: `n` is the bank number. -/
  | mbc2Ram (n : Byte)
  /-- `init`, format `OP`, R86. -/
  | init
  /-- `decode_header`, format `OP`, R90. -/
  | decodeHeader
  /-- `idle`, format `OP`, R92. -/
  | idle
  /-- `dispatch`, format `OP`, R93. -/
  | dispatch
  /-- `raise_Fault`, format `OP`, R103: `c` is one of the four causes of R102. -/
  | raiseFault (c : FaultCode)
  /-- `reset`, format `OP`, R114. -/
  | reset
  /-- `CTYPE.00.RomOnly`, format `CTYPE8`, R87: the code byte `cartridge_type`, match 0x00, mask 0xFF. -/
  | ctype00RomOnly
  /-- `CTYPE.01.MBC1`, format `CTYPE8`, R87: the code byte `cartridge_type`, match 0x01, mask 0xFF. -/
  | ctype01Mbc1
  /-- `CTYPE.02.MBC1`, format `CTYPE8`, R87: the code byte `cartridge_type`, match 0x02, mask 0xFF. -/
  | ctype02Mbc1
  /-- `CTYPE.03.MBC1`, format `CTYPE8`, R87: the code byte `cartridge_type`, match 0x03, mask 0xFF. -/
  | ctype03Mbc1
  /-- `CTYPE.05.MBC2`, format `CTYPE8`, R87: the code byte `cartridge_type`, match 0x05, mask 0xFF. -/
  | ctype05Mbc2
  /-- `CTYPE.06.MBC2`, format `CTYPE8`, R87: the code byte `cartridge_type`, match 0x06, mask 0xFF. -/
  | ctype06Mbc2
  /-- `CTYPE.0F.MBC3`, format `CTYPE8`, R87: the code byte `cartridge_type`, match 0x0F, mask 0xFF. -/
  | ctype0FMbc3
  /-- `CTYPE.10.MBC3`, format `CTYPE8`, R87: the code byte `cartridge_type`, match 0x10, mask 0xFF. -/
  | ctype10Mbc3
  /-- `CTYPE.11.MBC3`, format `CTYPE8`, R87: the code byte `cartridge_type`, match 0x11, mask 0xFF. -/
  | ctype11Mbc3
  /-- `CTYPE.12.MBC3`, format `CTYPE8`, R87: the code byte `cartridge_type`, match 0x12, mask 0xFF. -/
  | ctype12Mbc3
  /-- `CTYPE.13.MBC3`, format `CTYPE8`, R87: the code byte `cartridge_type`, match 0x13, mask 0xFF. -/
  | ctype13Mbc3
  /-- `CTYPE.19.MBC5`, format `CTYPE8`, R87: the code byte `cartridge_type`, match 0x19, mask 0xFF. -/
  | ctype19Mbc5
  /-- `CTYPE.1A.MBC5`, format `CTYPE8`, R87: the code byte `cartridge_type`, match 0x1A, mask 0xFF. -/
  | ctype1AMbc5
  /-- `CTYPE.1B.MBC5`, format `CTYPE8`, R87: the code byte `cartridge_type`, match 0x1B, mask 0xFF. -/
  | ctype1BMbc5
  /-- `CTYPE.1C.MBC5`, format `CTYPE8`, R87: the code byte `cartridge_type`, match 0x1C, mask 0xFF. -/
  | ctype1CMbc5
  /-- `CTYPE.1D.MBC5`, format `CTYPE8`, R87: the code byte `cartridge_type`, match 0x1D, mask 0xFF. -/
  | ctype1DMbc5
  /-- `CTYPE.1E.MBC5`, format `CTYPE8`, R87: the code byte `cartridge_type`, match 0x1E, mask 0xFF. -/
  | ctype1EMbc5
  /-- `CTYPE.INVALID.04_FF`, format `CTYPE8`, R87: the code byte `cartridge_type`, match 0x04, mask 0xFF. -/
  | ctypeInvalid04
  /-- `CTYPE.INVALID.07_FF`, format `CTYPE8`, R87: the code byte `cartridge_type`, match 0x07, mask 0xFF. -/
  | ctypeInvalid07
  /-- `CTYPE.INVALID.08_FC`, format `CTYPE8`, R87: the code byte `cartridge_type`, match 0x08, mask 0xFC; `low` is its 2 bits outside the mask. -/
  | ctypeInvalid08 (low : BitVec 2)
  /-- `CTYPE.INVALID.0C_FE`, format `CTYPE8`, R87: the code byte `cartridge_type`, match 0x0C, mask 0xFE; `low` is its 1 bit outside the mask. -/
  | ctypeInvalid0C (low : BitVec 1)
  /-- `CTYPE.INVALID.0E_FF`, format `CTYPE8`, R87: the code byte `cartridge_type`, match 0x0E, mask 0xFF. -/
  | ctypeInvalid0E
  /-- `CTYPE.INVALID.14_FC`, format `CTYPE8`, R87: the code byte `cartridge_type`, match 0x14, mask 0xFC; `low` is its 2 bits outside the mask. -/
  | ctypeInvalid14 (low : BitVec 2)
  /-- `CTYPE.INVALID.18_FF`, format `CTYPE8`, R87: the code byte `cartridge_type`, match 0x18, mask 0xFF. -/
  | ctypeInvalid18
  /-- `CTYPE.INVALID.1F_FF`, format `CTYPE8`, R87: the code byte `cartridge_type`, match 0x1F, mask 0xFF. -/
  | ctypeInvalid1F
  /-- `CTYPE.INVALID.20_E0`, format `CTYPE8`, R87: the code byte `cartridge_type`, match 0x20, mask 0xE0; `low` is its 5 bits outside the mask. -/
  | ctypeInvalid20 (low : BitVec 5)
  /-- `CTYPE.INVALID.40_C0`, format `CTYPE8`, R87: the code byte `cartridge_type`, match 0x40, mask 0xC0; `low` is its 6 bits outside the mask. -/
  | ctypeInvalid40 (low : BitVec 6)
  /-- `CTYPE.INVALID.80_80`, format `CTYPE8`, R87: the code byte `cartridge_type`, match 0x80, mask 0x80; `low` is its 7 bits outside the mask. -/
  | ctypeInvalid80 (low : BitVec 7)
  /-- `ROMSZ.00`, format `ROMSZ8`, R88: the code byte `rom_size`, match 0x00, mask 0xFF. -/
  | romsz00
  /-- `ROMSZ.01`, format `ROMSZ8`, R88: the code byte `rom_size`, match 0x01, mask 0xFF. -/
  | romsz01
  /-- `ROMSZ.02`, format `ROMSZ8`, R88: the code byte `rom_size`, match 0x02, mask 0xFF. -/
  | romsz02
  /-- `ROMSZ.03`, format `ROMSZ8`, R88: the code byte `rom_size`, match 0x03, mask 0xFF. -/
  | romsz03
  /-- `ROMSZ.04`, format `ROMSZ8`, R88: the code byte `rom_size`, match 0x04, mask 0xFF. -/
  | romsz04
  /-- `ROMSZ.05`, format `ROMSZ8`, R88: the code byte `rom_size`, match 0x05, mask 0xFF. -/
  | romsz05
  /-- `ROMSZ.06`, format `ROMSZ8`, R88: the code byte `rom_size`, match 0x06, mask 0xFF. -/
  | romsz06
  /-- `ROMSZ.07`, format `ROMSZ8`, R88: the code byte `rom_size`, match 0x07, mask 0xFF. -/
  | romsz07
  /-- `ROMSZ.08`, format `ROMSZ8`, R88: the code byte `rom_size`, match 0x08, mask 0xFF. -/
  | romsz08
  /-- `ROMSZ.INVALID.09_FF`, format `ROMSZ8`, R88: the code byte `rom_size`, match 0x09, mask 0xFF. -/
  | romszInvalid09
  /-- `ROMSZ.INVALID.0A_FE`, format `ROMSZ8`, R88: the code byte `rom_size`, match 0x0A, mask 0xFE; `low` is its 1 bit outside the mask. -/
  | romszInvalid0A (low : BitVec 1)
  /-- `ROMSZ.INVALID.0C_FC`, format `ROMSZ8`, R88: the code byte `rom_size`, match 0x0C, mask 0xFC; `low` is its 2 bits outside the mask. -/
  | romszInvalid0C (low : BitVec 2)
  /-- `ROMSZ.INVALID.10_F0`, format `ROMSZ8`, R88: the code byte `rom_size`, match 0x10, mask 0xF0; `low` is its 4 bits outside the mask. -/
  | romszInvalid10 (low : BitVec 4)
  /-- `ROMSZ.INVALID.20_E0`, format `ROMSZ8`, R88: the code byte `rom_size`, match 0x20, mask 0xE0; `low` is its 5 bits outside the mask. -/
  | romszInvalid20 (low : BitVec 5)
  /-- `ROMSZ.INVALID.40_C0`, format `ROMSZ8`, R88: the code byte `rom_size`, match 0x40, mask 0xC0; `low` is its 6 bits outside the mask. -/
  | romszInvalid40 (low : BitVec 6)
  /-- `ROMSZ.INVALID.80_80`, format `ROMSZ8`, R88: the code byte `rom_size`, match 0x80, mask 0x80; `low` is its 7 bits outside the mask. -/
  | romszInvalid80 (low : BitVec 7)
  /-- `RAMSZ.00`, format `RAMSZ8`, R89: the code byte `ram_size`, match 0x00, mask 0xFF. -/
  | ramsz00
  /-- `RAMSZ.01`, format `RAMSZ8`, R89: the code byte `ram_size`, match 0x01, mask 0xFF. -/
  | ramsz01
  /-- `RAMSZ.02`, format `RAMSZ8`, R89: the code byte `ram_size`, match 0x02, mask 0xFF. -/
  | ramsz02
  /-- `RAMSZ.03`, format `RAMSZ8`, R89: the code byte `ram_size`, match 0x03, mask 0xFF. -/
  | ramsz03
  /-- `RAMSZ.04`, format `RAMSZ8`, R89: the code byte `ram_size`, match 0x04, mask 0xFF. -/
  | ramsz04
  /-- `RAMSZ.05`, format `RAMSZ8`, R89: the code byte `ram_size`, match 0x05, mask 0xFF. -/
  | ramsz05
  /-- `RAMSZ.INVALID.06_FE`, format `RAMSZ8`, R89: the code byte `ram_size`, match 0x06, mask 0xFE; `low` is its 1 bit outside the mask. -/
  | ramszInvalid06 (low : BitVec 1)
  /-- `RAMSZ.INVALID.08_F8`, format `RAMSZ8`, R89: the code byte `ram_size`, match 0x08, mask 0xF8; `low` is its 3 bits outside the mask. -/
  | ramszInvalid08 (low : BitVec 3)
  /-- `RAMSZ.INVALID.10_F0`, format `RAMSZ8`, R89: the code byte `ram_size`, match 0x10, mask 0xF0; `low` is its 4 bits outside the mask. -/
  | ramszInvalid10 (low : BitVec 4)
  /-- `RAMSZ.INVALID.20_E0`, format `RAMSZ8`, R89: the code byte `ram_size`, match 0x20, mask 0xE0; `low` is its 5 bits outside the mask. -/
  | ramszInvalid20 (low : BitVec 5)
  /-- `RAMSZ.INVALID.40_C0`, format `RAMSZ8`, R89: the code byte `ram_size`, match 0x40, mask 0xC0; `low` is its 6 bits outside the mask. -/
  | ramszInvalid40 (low : BitVec 6)
  /-- `RAMSZ.INVALID.80_80`, format `RAMSZ8`, R89: the code byte `ram_size`, match 0x80, mask 0x80; `low` is its 7 bits outside the mask. -/
  | ramszInvalid80 (low : BitVec 7)
  deriving DecidableEq, Repr

end Sys2Proof
end

