-- ==== Sys2Proof/Machine/State.lean ====
section
/-! DEFINITION. The state of the block and of the environment it drives (`10_state.md`), the position inside the running
operation (R17), the state after reset (R25), and the ways a step can stop. -/

namespace Sys2Proof.Machine

/-- A byte memory of the block (R14, R15): (address, byte) pairs, addresses strictly rising, no entry equal to what an
unlisted address reads as (`Memory.unlisted`, in Ops.lean). -/
abbrev Memory := List Host.Cell

/-- The control states (R17). -/
inductive Fsm where
  | init
  | idle
  | dispatch
  | exec
  | fault
  deriving DecidableEq, Repr

/-- A pending line of pseudocode: what `State.work` lists, the next one first (R17, log 2). `call` runs an operation of
the opcode table; the others are the lines that are no row of it. A loop keeps its counter in the register R13 names. -/
inductive Task where
  /-- run the named operation to its end -/
  | call (i : Instr)
  /-- `pin <- b`: one `Set` event (R7) -/
  | set (p : Pin) (b : Bool)
  /-- the end of one turn of `set_address`'s loop over `bitn` (R55) -/
  | nextBit
  /-- the timer of `Delay(T)` reaches zero (R68) -/
  | delayEnd (t : Nat)
  /-- `buf[idx] <-` the byte read, and the end of one turn of `read_block(a)`'s loop (R67) -/
  | storeByte (a : Half)
  /-- `hdr[i] <- buf[0x100 + i]`, i = 0 .. 63 (R86) -/
  | copyHdr
  /-- `decode_mbc()` (R87) -/
  | decodeMbc
  /-- `decode_rom_size()` (R88) -/
  | decodeRomSize
  /-- `decode_ram_size()` (R89) -/
  | decodeRamSize
  /-- `fsm <- IDLE` at the end of `init()` (R86) -/
  | toIdle
  /-- `SerWrite(hdr[idx])`, one turn of DumpHeader's loop (R95) -/
  | sendHdr
  /-- one turn of DumpRom's loop over `bank` (R96) -/
  | romBank
  /-- the end of that turn (R96) -/
  | nextRomBank
  /-- `for blk in 0 .. last`: read and send the blocks of a bank whose window starts at `base` (R96, R97) -/
  | blkLoop (base : Half) (last : BitVec 5)
  /-- the end of one turn of that loop -/
  | nextBlk (base : Half) (last : BitVec 5)
  /-- `for idx in 0 .. 511: SerWrite(buf[idx])` (R96, R97) -/
  | sendLoop
  /-- `SerWrite(buf[idx])`, one turn of that loop -/
  | sendBuf
  /-- one turn of DumpRam's loop over `bank` (R97) -/
  | ramBank
  /-- the end of that turn -/
  | nextRamBank
  /-- one turn of FlashRam's loop over `bank` (R98) -/
  | flashBank
  /-- the end of that turn -/
  | nextFlashBank
  /-- `for chunk in 0 .. 255` (R98) -/
  | chunkLoop
  /-- the end of one turn of that loop -/
  | nextChunk
  /-- `for idx in 0 .. 31: cbuf[idx] <- SerRead()` (R98) -/
  | recvLoop
  /-- `cbuf[idx] <- SerRead()`, one turn of that loop -/
  | recvByte
  /-- `for idx in 0 .. 31: write_byte(0xA000 + chunk * 32 + idx, cbuf[idx])` (R98) -/
  | writeLoop
  /-- one turn of that loop -/
  | writeChunk
  /-- the end of that turn -/
  | nextWrite
  deriving DecidableEq, Repr

/-- Why the machine stops with no next state. -/
inductive Fault where
  /-- `SerRead` with no byte in `rx`: raised by `idle`, `dispatch` and FlashRam's payload loop. "With an empty `rx` there
  is no transition" (R100): the block is stuck, not faulted, and the same state runs on once `rx` holds a byte. Safe. -/
  | serialReadWait
  /-- `SerWrite` while the transport does not accept: raised by every operation that sends. Stuck until it accepts
  (R100). Safe. -/
  | serialWriteWait
  /-- The block is in `FAULT`: raised by `step`. Nothing executes until reset (R103, R104, U10). Safe. -/
  | stopped
  deriving DecidableEq, Repr

/-- Why an instruction is refused. -/
inductive Refusal where
  /-- no meaning written for the instruction; raised by no arm of this model. Safe. -/
  | notModelled (mnemonic : String)
  /-- `db_read` with `DIR = out`; `db_write` or `to_input` with `DIR = in`; `to_output` with `DIR = out`: "such a call is
  refused, never given a value" (R63, U5). Raised by those four operations. Safe. -/
  | wrongDirection
  /-- `RST` asserted in the middle of an operation: "a model gives a mid-run reset no transition" (R114, U9, D28). Raised
  by `reset`. Safe. -/
  | midRunReset
  deriving DecidableEq, Repr

/-- Everything the spec gives the machine, plain data. -/
structure State where
  /-- `SR_DATA` (R10) -/
  srData : Bool
  /-- `SR_CLK` (R10) -/
  srClk : Bool
  /-- `SR_LATCH` (R10) -/
  srLatch : Bool
  /-- `RD_N` (R10) -/
  rdN : Bool
  /-- `WR_N` (R10) -/
  wrN : Bool
  /-- `DIR` (R11) -/
  dir : Dir
  /-- `DQ_OUT`, bit `p` for pin `DQ[p]` (R11) -/
  dqOut : BitVec 8
  /-- `areg` (R13) -/
  areg : Half
  /-- `dreg` (R13) -/
  dreg : Byte
  /-- `bitn` (R13) -/
  bitn : BitVec 4
  /-- `bank` (R13) -/
  bank : Half
  /-- `blk` (R13) -/
  blk : BitVec 5
  /-- `chunk` (R13) -/
  chunk : BitVec 8
  /-- `idx` (R13) -/
  idx : BitVec 9
  /-- `cmd` (R13) -/
  cmd : Byte
  /-- `buf[0..511]` (R14) -/
  buf : Memory
  /-- `cbuf[0..31]` (R14) -/
  cbuf : Memory
  /-- `hdr[0..63]` (R15) -/
  hdr : Memory
  /-- `variant` (R16) -/
  variant : Variant
  /-- `rom_banks` (R16) -/
  romBanks : BitVec 10
  /-- `ram_banks` (R16) -/
  ramBanks : BitVec 5
  /-- `fsm` (R17) -/
  fsm : Fsm
  /-- the position inside the running operation: its pending lines, the next one first (R17, log 2) -/
  work : List Task
  /-- `fault`, the port `FAULT` (R18) -/
  fault : Bool
  /-- `fault_code`, the port `FAULT_CODE` (R18) -/
  faultCode : BitVec 3
  /-- `tmr`: the ticks the strobe timer still has to count; 0 is idle (R19, log 9) -/
  tmr : Nat
  /-- the port `RST`, asserted (R9, R114, log 8) -/
  rst : Bool
  /-- the external shift stage `Q` (R20) -/
  extQ : Half
  /-- the external address latch `A` (R20) -/
  extA : Half
  /-- bytes from the host that no `SerRead` has taken, oldest first (R22) -/
  rx : List Byte
  /-- bytes sent to the host, oldest first (R22) -/
  tx : List Byte
  /-- the transport accepts a byte now (the model's own; R7, R100, log 7) -/
  txReady : Bool
  /-- the environment's answers to the coming `Sample`s, the next one first (the model's own; R33, log 6) -/
  answers : List Byte
  /-- every event so far, the newest first (the model's own; R7, R33, log 6) -/
  trace : List Event
  /-- the open parameters, constant (R6, log 10) -/
  cfg : Config.Params
  deriving DecidableEq, Repr

/-- The machine right after reset (R25, R114). The registers R25 leaves unspecified hold 0 (log 3), the external stages
any value (log 5), and the environment has queued nothing (log 6, log 7). -/
def State.reset : State where
  srData := false
  srClk := false
  srLatch := true
  rdN := true
  wrN := true
  dir := .input
  dqOut := 0
  areg := 0
  dreg := 0
  bitn := 0
  bank := 0
  blk := 0
  chunk := 0
  idx := 0
  cmd := 0
  buf := []
  cbuf := []
  hdr := []
  variant := .romOnly
  romBanks := 0
  ramBanks := 0
  fsm := .init
  work := []
  fault := false
  faultCode := 0
  tmr := 0
  rst := false
  extQ := Config.extQ0
  extA := Config.extA0
  rx := []
  tx := []
  txReady := true
  answers := []
  trace := []
  cfg := Config.params

end Sys2Proof.Machine
end

