-- ==== Sys2Proof/Machine/Ops.lean ====
section
/-! DEFINITION. The named operations over memory, pins, data lines, serial streams and the position; taking a fault (R103)
and the reset (R114) as one shared operation each. -/

namespace Sys2Proof.Machine

/-- The answer of a meaning. -/
abbrev Out := Host.Outcome State Fault Refusal

/-- What a byte of `buf`, `cbuf` or `hdr` that nothing has written reads as (log 4). -/
def Memory.unlisted : Byte := 0

/-- The byte at an address. -/
def Memory.read : Memory → Nat → Byte
  | [], _ => Memory.unlisted
  | c :: m, a => if c.1 = a then c.2 else Memory.read m a

/-- The memory with a byte written, in canonical form again. -/
def Memory.write : Memory → Nat → Byte → Memory
  | [], a, v => if v = Memory.unlisted then [] else [(a, v)]
  | c :: m, a, v =>
    if a < c.1 then if v = Memory.unlisted then c :: m else (a, v) :: c :: m
    else if a = c.1 then if v = Memory.unlisted then m else (a, v) :: m
    else c :: Memory.write m a v

/-- The canonical form above a bound: addresses strictly rising from `lo`, no entry equal to what an unlisted address
reads as. -/
def Memory.wfFrom : Nat → Memory → Bool
  | _, [] => true
  | lo, c :: m => lo ≤ c.1 && c.2 ≠ Memory.unlisted && Memory.wfFrom (c.1 + 1) m

/-- The canonical form. -/
def Memory.wf (m : Memory) : Bool := Memory.wfFrom 0 m

/-- Record an event (R7). -/
def emit (e : Event) (s : State) : State := { s with trace := e :: s.trace }

/-- Enter pseudocode: its lines come before what is pending. -/
def enter (lines : List Task) (s : State) : State := { s with work := lines ++ s.work }

/-- The external shift stage after one rising edge of `SR_CLK`: `Q <- { SR_DATA, Q[15:1] }` (R57). -/
def shiftIn (d : Bool) (q : Half) : Half := BitVec.cons d (q.extractLsb' 1 15)

/-- `pin <- b` with the external register's response to a rising edge of `SR_CLK` or `SR_LATCH` (R7, R10, R57). -/
def setPin (p : Pin) (b : Bool) (s : State) : State :=
  match p with
  | .srData => emit (.set p b) { s with srData := b }
  | .srClk =>
    emit (.set p b) { s with srClk := b, extQ := if !s.srClk && b then shiftIn s.srData s.extQ else s.extQ }
  | .srLatch =>
    emit (.set p b) { s with srLatch := b, extA := if !s.srLatch && b then s.extQ else s.extA }
  | .rdN => emit (.set p b) { s with rdN := b }
  | .wrN => emit (.set p b) { s with wrN := b }

/-- `DIR <- d`, all eight lines in one event (R7, R59, R60). -/
def setDir (d : Dir) (s : State) : State := emit (.setDir d) { s with dir := d }

/-- `DQ_OUT <- v`, all eight lines in one event; `v` by pin (R7, R62). -/
def setDQ (v : BitVec 8) (s : State) : State := emit (.setDQ v) { s with dqOut := v }

/-- The byte the environment puts on the data lines for a `Sample` (R33, D27, log 6): the next queued answer; with none
queued, what the read oracle drives for the history and `A` while the read strobe is active and the write strobe is not,
and anything otherwise. -/
def lineByte (s : State) : Byte :=
  match s.answers with
  | b :: _ => b
  | [] =>
    if s.rdN = false ∧ s.wrN = true then Config.cartRead s.trace s.extA else Config.undriven s.trace

/-- `b <- SerRead()`: the head of `rx`, or no transition while it is empty (R7, R22, R38, R100). -/
def serRead (s : State) (k : Byte → State → State) : Out :=
  match s.rx with
  | [] => .fault .serialReadWait
  | b :: rest => .next (k b (emit (.rx b) { s with rx := rest }))

/-- `SerWrite(b)`: appended to `tx`, or no transition while the transport does not accept (R7, R22, R38, R100). -/
def serWrite (b : Byte) (s : State) (k : State → State) : Out :=
  if s.txReady then .next (k (emit (.tx b) { s with tx := s.tx ++ [b] })) else .fault .serialWriteWait

/-- The number of a fault (R102). -/
def faultNumber : FaultCode → BitVec 3
  | .unsupportedOperation => 1
  | .unknownCartridgeType => 2
  | .unknownRamSize => 3
  | .romSizeOutOfRange => 4

/-- `raise Fault(code)` (R103): one event; the code is recorded, the block stops, and the running operation and every
caller of it end there. Nothing else changes: no register is saved, no byte sent, no pin moved. -/
def takeFault (c : FaultCode) (s : State) : State :=
  emit (.fault (faultNumber c)) { s with fault := true, faultCode := faultNumber c, fsm := .fault, work := [] }

/-- The bus is idle (R70). -/
def busIdle (s : State) : Bool :=
  s.rdN && s.wrN && s.dir = .input && s.dqOut = 0 && s.srLatch && !s.srClk

/-- The next line waits for the transport (R100). -/
def waiting (s : State) : Bool :=
  match s.work with
  | .sendHdr :: _ | .sendBuf :: _ | .call .ackChunk :: _ | .call .endBank :: _ => !s.txReady
  | .recvByte :: _ => s.rx.isEmpty
  | _ => false

/-- No operation is in its middle (R114, log 8): the bus is idle, and the block is in `FAULT`, or between operations, or
waiting for the transport. -/
def resettable (s : State) : Bool :=
  busIdle s && (s.fsm = .fault || s.work.isEmpty || waiting s)

/-- The block's registers at their reset values (R25, R114). What is outside the block stays: the external register, the
transport, the environment's answers, the history and the parameters (R114: the block does not reset the cartridge or the
external register). -/
def resetBlock (s : State) : State :=
  { State.reset with
    extQ := s.extQ, extA := s.extA, rx := s.rx, tx := s.tx, txReady := s.txReady, answers := s.answers,
    trace := s.trace, cfg := s.cfg }

end Sys2Proof.Machine
end

