-- ==== Sys2Proof/Machine/Operands.lean ====
section
/-! DEFINITION. Operand forms: the byte-to-pin map (R46), the bank-number fields (R49), the computed addresses (R49, R67,
R96-R98), the header codes (R50, R52, R53) and the timer's tick count (R68). -/

namespace Sys2Proof.Machine

/-- Pin `p` carries value bit `7 - p`, in both directions (R46): from a value to a pin vector (R62), and from a pin
vector to a value (R61). -/
def pinMap (v : BitVec 8) : BitVec 8 :=
  (v.extractLsb' 0 1 ++ v.extractLsb' 1 1 ++ v.extractLsb' 2 1 ++ v.extractLsb' 3 1
    ++ v.extractLsb' 4 1 ++ v.extractLsb' 5 1 ++ v.extractLsb' 6 1 ++ v.extractLsb' 7 1 : BitVec 8)

/-- `(addr + idx) mod 2^16` (R67). -/
def blockAddr (a : Half) (idx : BitVec 9) : Half := a + idx.setWidth 16

/-- `base + blk * 512` (R96, R97). -/
def blkBase (base : Half) (blk : BitVec 5) : Half := base + blk.setWidth 16 * 512

/-- `0xA000 + chunk * 32 + idx` (R98). -/
def chunkAddr (chunk : BitVec 8) (idx : BitVec 9) : Half :=
  Config.ramBase + chunk.setWidth 16 * 32 + idx.setWidth 16

/-- The window a ROM bank is read through (R37, R96): 0x0000 for bank 0, 0x4000 for the others. -/
def romBase (bank : Half) : Half := if bank ≠ 0 then Config.romxBase else Config.rom0Base

/-- `bank & 0x1F`, MBC1's low ROM field (R49, R77). -/
def mbc1Low (bank : Half) : BitVec 5 := bank.extractLsb' 0 5

/-- `(bank >> 8) & 3`, MBC1's upper ROM field (R49, R77). -/
def mbc1High (bank : Half) : BitVec 2 := bank.extractLsb' 8 2

/-- `bank & 0x0F`, MBC2's ROM field (R49, R79). -/
def mbc2Low (bank : Half) : BitVec 4 := bank.extractLsb' 0 4

/-- `bank & 0x7F`, MBC3's ROM field (R49, R81). -/
def mbc3Low (bank : Half) : BitVec 7 := bank.extractLsb' 0 7

/-- `(bank >> 8) & 1`, MBC5's high ROM field (R49, R83). -/
def mbc5High (bank : Half) : BitVec 1 := bank.extractLsb' 8 1

/-- `bank & 0xFF`, MBC5's low ROM field (R49, R83). -/
def mbc5Low (bank : Half) : BitVec 8 := bank.extractLsb' 0 8

/-- `bank & 3`, MBC1's and MBC3's RAM field (R49, R78, R82). -/
def ramLow2 (bank : Byte) : BitVec 2 := bank.extractLsb' 0 2

/-- `bank & 0x0F`, MBC5's RAM field (R49, R84). -/
def ramLow4 (bank : Byte) : BitVec 4 := bank.extractLsb' 0 4

/-- The RAM bank number as `select_ram_bank` takes it, a `u8` (R13, R49). -/
def ramBankOperand (bank : Half) : Byte := bank.setWidth 8

/-- `cartridge_type = hdr[OFF_TYPE]` (R50). -/
def cartridgeType (s : State) : Byte := Memory.read s.hdr s.cfg.offType

/-- `rom_size = hdr[OFF_ROM]` (R50). -/
def romSize (s : State) : Byte := Memory.read s.hdr s.cfg.offRom

/-- `ram_size = hdr[OFF_RAM]` (R50). -/
def ramSize (s : State) : Byte := Memory.read s.hdr s.cfg.offRam

/-- `2 << rom_size` (R52, R88). -/
def romBanksOf (code : Nat) : BitVec 10 := BitVec.ofNat 10 (2 <<< code)

/-- `hdr[i] <- buf[0x100 + i]` for the first `n` header bytes (R86). -/
def copyHeader (buf : Memory) : Nat → Memory → Memory
  | 0, hdr => hdr
  | n + 1, hdr => Memory.write (copyHeader buf n hdr) n (Memory.read buf (Config.headerBase + n))

/-- `ceil(T × F_CLK)` ticks, for a time in nanoseconds and a clock in hertz (R19, R68, log 9). -/
def ticks (t fClk : Nat) : Nat := (t * fClk + 999999999) / 1000000000

end Sys2Proof.Machine
end

