-- ==== Sys2Proof/Machine/Flags.lean ====
section
/-! DEFINITION. The block has no condition codes and no operation sets a flag (R23), so there is no flag computation.
These are the conditions its rules test, all of them of a value computed in the running operation (R23). -/

namespace Sys2Proof.Machine

/-- The settle delay of `read_byte` is made (R65). -/
def settles (s : State) : Bool := 0 < s.cfg.tRdSettle

/-- `bank != 0` (R96). -/
def switchedBank (bank : Half) : Bool := bank ≠ 0

/-- `hi != 0` (R77). -/
def upperBitsSet (hi : BitVec 2) : Bool := hi ≠ 0

/-- `bank` is below `rom_banks`: the loop of R96 makes another turn. -/
def inRomBanks (bank : Half) (s : State) : Bool := bank < s.romBanks.setWidth 16

/-- `bank` is below `ram_banks`: the loop of R97 or R98 makes another turn. -/
def inRamBanks (bank : Half) (s : State) : Bool := bank < s.ramBanks.setWidth 16

end Sys2Proof.Machine
end

