-- ==== Sys2Proof/Machine/Bulk.lean ====
section
/-! DEFINITION. The bulk-transfer commands (`45_command_framer.md`, R95-R98). Their loops keep their counters in the registers of R13. -/

namespace Sys2Proof.Machine

/-- DumpHeader (R95): the 64 bytes of `hdr`. -/
def execDumpHdr (s : State) : Out := .next (enter [.sendHdr] { s with idx := 0 })

/-- `SerWrite(hdr[idx])` and the next turn, up to index 63 (R95). -/
def lineSendHdr (s : State) : Out :=
  serWrite (Memory.read s.hdr s.idx.toNat) s fun t =>
    if t.idx < 63 then enter [.sendHdr] { t with idx := t.idx + 1 } else t

/-- DumpRom (R96). DESIGN CHOICE (log 17): `bank` is 0 also where the loop makes no turn (`rom_banks = 0`). -/
def execDumpRom (s : State) : Out := .next (enter [.romBank] { s with bank := 0 })

/-- One turn of DumpRom's loop: select a bank other than 0, then its 32 blocks from the window's base (R96). -/
def lineRomBank (s : State) : Out :=
  if inRomBanks s.bank s then
    .next (enter ((if switchedBank s.bank then [.call (.selectRomBank s.bank)] else [])
      ++ [.blkLoop (romBase s.bank) 31, .nextRomBank]) s)
  else .next s

/-- The next ROM bank, up to `rom_banks - 1` (R96). -/
def lineNextRomBank (s : State) : Out :=
  if inRomBanks (s.bank + 1) s then .next (enter [.romBank] { s with bank := s.bank + 1 }) else .next s

/-- One turn of the loop over `blk`: read a block whole, then send it whole (R96, R97). -/
def blkLines (base : Half) (last : BitVec 5) (s : State) : List Task :=
  [.call (.readBlock (blkBase base s.blk)), .sendLoop, .nextBlk base last]

/-- `for blk in 0 .. last` (R96, R97). -/
def lineBlkLoop (base : Half) (last : BitVec 5) (s : State) : Out :=
  let s1 := { s with blk := 0 }
  .next (enter (blkLines base last s1) s1)

/-- The next block, up to `last` (R96, R97). -/
def lineNextBlk (base : Half) (last : BitVec 5) (s : State) : Out :=
  if s.blk < last then
    let s1 := { s with blk := s.blk + 1 }
    .next (enter (blkLines base last s1) s1)
  else .next s

/-- `for idx in 0 .. 511: SerWrite(buf[idx])` (R96, R97). -/
def lineSendLoop (s : State) : Out := .next (enter [.sendBuf] { s with idx := 0 })

/-- `SerWrite(buf[idx])` and the next turn, up to index 511 (R96, R97). -/
def lineSendBuf (s : State) : Out :=
  serWrite (Memory.read s.buf s.idx.toNat) s fun t =>
    if t.idx < 511 then enter [.sendBuf] { t with idx := t.idx + 1 } else t

/-- DumpRam (R97). DESIGN CHOICE (log 17): `bank` takes its first value, 0, at the entry of the command, before `enable_ram`,
and also where the loop makes no turn (`ram_banks = 0`). -/
def execDumpRam (s : State) : Out :=
  .next (enter [.call .enableRam, .ramBank, .call .disableRam] { s with bank := 0 })

/-- One turn of DumpRam's loop: select the bank, bank 0 included, then its 16 blocks (R97). -/
def lineRamBank (s : State) : Out :=
  if inRamBanks s.bank s then
    .next (enter [.call (.selectRamBank (ramBankOperand s.bank)), .blkLoop Config.ramBase 15, .nextRamBank] s)
  else .next s

/-- The next RAM bank, up to `ram_banks - 1` (R97). -/
def lineNextRamBank (s : State) : Out :=
  if inRamBanks (s.bank + 1) s then .next (enter [.ramBank] { s with bank := s.bank + 1 }) else .next s

/-- FlashRam (R98). DESIGN CHOICE (log 17): `bank` takes its first value, 0, at the entry of the command, before `enable_ram`,
and also where the loop makes no turn (`ram_banks = 0`). -/
def execFlashRam (s : State) : Out :=
  .next (enter [.call .enableRam, .flashBank, .call .disableRam] { s with bank := 0 })

/-- One turn of FlashRam's loop: select the bank, its 256 chunks, the bank-end marker (R98). -/
def lineFlashBank (s : State) : Out :=
  if inRamBanks s.bank s then
    .next (enter [.call (.selectRamBank (ramBankOperand s.bank)), .chunkLoop, .call .endBank, .nextFlashBank] s)
  else .next s

/-- The next bank to flash, up to `ram_banks - 1` (R98). -/
def lineNextFlashBank (s : State) : Out :=
  if inRamBanks (s.bank + 1) s then .next (enter [.flashBank] { s with bank := s.bank + 1 }) else .next s

/-- One chunk: receive 32 bytes, write 32 bytes, send the chunk-end marker (R98). -/
def chunkLines : List Task := [.recvLoop, .writeLoop, .call .ackChunk, .nextChunk]

/-- `for chunk in 0 .. 255` (R98). -/
def lineChunkLoop (s : State) : Out := .next (enter chunkLines { s with chunk := 0 })

/-- The next chunk, up to number 255 (R98). -/
def lineNextChunk (s : State) : Out :=
  if s.chunk < 255 then .next (enter chunkLines { s with chunk := s.chunk + 1 }) else .next s

/-- `for idx in 0 .. 31: cbuf[idx] <- SerRead()` (R98). -/
def lineRecvLoop (s : State) : Out := .next (enter [.recvByte] { s with idx := 0 })

/-- `cbuf[idx] <- SerRead()` and the next turn, up to index 31 (R98). -/
def lineRecvByte (s : State) : Out :=
  serRead s fun b t =>
    let t1 := { t with cbuf := Memory.write t.cbuf t.idx.toNat b }
    if t1.idx < 31 then enter [.recvByte] { t1 with idx := t1.idx + 1 } else t1

/-- `for idx in 0 .. 31: write_byte(…)` (R98). -/
def lineWriteLoop (s : State) : Out := .next (enter [.writeChunk] { s with idx := 0 })

/-- `areg <- 0xA000 + chunk * 32 + idx`, then `write_byte(areg, cbuf[idx])` (R13, R98). DESIGN CHOICE (log 16): `areg` takes
the address here already, and the same value again in the `set_address` of the write. -/
def lineWriteChunk (s : State) : Out :=
  let a := chunkAddr s.chunk s.idx
  .next (enter [.call (.writeByte a (Memory.read s.cbuf s.idx.toNat)), .nextWrite] { s with areg := a })

/-- The next byte of the chunk, up to index 31 (R98). -/
def lineNextWrite (s : State) : Out :=
  if s.idx < 31 then .next (enter [.writeChunk] { s with idx := s.idx + 1 }) else .next s

end Sys2Proof.Machine
end

