-- ==== Sys2Proof/Machine/CartBus.lean ====
section
/-! DEFINITION. The cartridge-bus sequencer and the strobe timer (`42_cartridge_bus.md`, R65-R71). -/

namespace Sys2Proof.Machine

/-- The optional settle delay of `read_byte` (R65, R120). -/
def settleLines (s : State) : List Task := if settles s then [.call (.delay s.cfg.tRdSettle)] else []

/-- `read_byte(addr)` (R65). The byte it returns is left in `dreg`. -/
def execReadByte (a : Half) (s : State) : Out :=
  .next (enter ([.set .wrN true, .set .rdN false, .call (.setAddress a)] ++ settleLines s
    ++ [.call .dbRead, .set .rdN true]) s)

/-- `write_byte(addr, value)` (R66). -/
def execWriteByte (a : Half) (v : Byte) (s : State) : Out :=
  .next (enter [.call .toOutput, .call (.setAddress a), .call (.dbWrite v), .call (.delay Config.tWrSetup),
    .set .rdN true, .set .wrN false, .call (.delay Config.tWrPulse), .set .wrN true,
    .call (.dbWrite 0x00), .call .toInput] s)

/-- One turn of `read_block(addr)`'s loop: read the byte at `addr + idx`, then store it (R67). DESIGN CHOICE (log 16): the
address is computed from `addr` and `idx` at each turn, and `areg` takes it in that turn's `set_address`, not in a line of the
loop's own. -/
def byteLines (a : Half) (s : State) : List Task := [.call (.readByte (blockAddr a s.idx)), .storeByte a]

/-- `read_block(addr)` (R67): 512 bytes into `buf`. -/
def execReadBlock (a : Half) (s : State) : Out :=
  let s1 := { s with idx := 0 }
  .next (enter (byteLines a s1) s1)

/-- `buf[idx] <-` the byte read, and the next turn of the loop, up to index 511 (R67). -/
def lineStoreByte (a : Half) (s : State) : Out :=
  let s1 := { s with buf := Memory.write s.buf s.idx.toNat s.dreg }
  if s.idx < 511 then
    let s2 := { s1 with idx := s.idx + 1 }
    .next (enter (byteLines a s2) s2)
  else .next s1

/-- `Delay(T)` (R68): the timer starts with `ceil(T × F_CLK)` ticks. -/
def execDelay (t : Nat) (s : State) : Out :=
  .next (enter [.delayEnd t] { s with tmr := ticks t s.cfg.fClk })

/-- The timer has counted its ticks: the event `Delay(T)` is complete (R68). -/
def lineDelayEnd (t : Nat) (s : State) : Out := .next (emit (.delay t) { s with tmr := 0 })

end Sys2Proof.Machine
end

