-- ==== Sys2Proof/Machine/DataBus.lean ====
section
/-! DEFINITION. The bidirectional data-bus multiplexer (`41_data_bus.md`, R59-R64). A call in the wrong direction is refused (R63). -/

namespace Sys2Proof.Machine

/-- `to_output()` (R59). -/
def execToOutput (s : State) : Out :=
  if s.dir = .input then .next (setDir .output s) else .refused .wrongDirection

/-- `to_input()` (R60): `DQ_OUT` keeps its value. -/
def execToInput (s : State) : Out :=
  if s.dir = .output then .next (setDir .input s) else .refused .wrongDirection

/-- `db_read()` (R61): one `Sample` of the eight levels, packed into `dreg`. The levels are the environment's byte as the
pins carry it (R33, R46). -/
def execDbRead (s : State) : Out :=
  if s.dir = .input then
    let levels := pinMap (lineByte s)
    .next (emit (.sample levels) { s with dreg := pinMap levels, answers := s.answers.tail })
  else .refused .wrongDirection

/-- `db_write(v)` (R62): `dreg <- v`, then the eight lines in one event. -/
def execDbWrite (v : Byte) (s : State) : Out :=
  if s.dir = .output then .next (setDQ (pinMap v) { s with dreg := v }) else .refused .wrongDirection

end Sys2Proof.Machine
end

