-- ==== Sys2Proof/WellFormed.lean ====
section
/-! DEFINITION. What a term of `Instr` must meet besides the widths its type already gives. -/

namespace Sys2Proof

/-- The checks: MBC1's second ROM write is made only with a non-zero value (R77); a delay is made only for a time above
zero (R65, R68). Every other term of `Instr` is well-formed by its type. -/
def Instr.wf : Instr → Bool
  | .mbc1RomW2 h => h ≠ 0
  | .delay t => 0 < t
  | _ => true

end Sys2Proof
end

