-- ==== Sys2Proof/Decode.lean ====
section
/-! DEFINITION. Decoding and encoding, from the tables of `30_encoding.md` (R40-R53) and `spec/opcode_table.json`.
The block decides by POSITION which encoding a byte is read in (R36), so decoding takes a format. A word of MBC control
writes means what it means for one variant and one request (R48), so those formats carry them. `OP` rows and `db_read`
have no words (log 13). -/

namespace Sys2Proof

/-- The formats that have words (`30_encoding.md`, introduction). -/
inductive Format where
  /-- `SYNC8` -/
  | sync8
  /-- `CMD8` -/
  | cmd8
  /-- `TX8` -/
  | tx8
  /-- `MBCW24`, the RAM gate, the same for all variants -/
  | ramGate24
  /-- `MBCW24`, a ROM bank request of one variant -/
  | romBank24 (v : Variant)
  /-- `MBCW24`, a RAM bank request of one variant -/
  | ramBank24 (v : Variant)
  /-- `SHIFT16` -/
  | shift16
  /-- `SHIFT1` -/
  | shift1
  /-- `DBUS8`, a byte driven -/
  | dbus8
  /-- `BUSRD16` -/
  | busrd16
  /-- `BUSWR24` -/
  | buswr24
  /-- `CTYPE8` -/
  | ctype8
  /-- `ROMSZ8` -/
  | romsz8
  /-- `RAMSZ8` -/
  | ramsz8
  deriving DecidableEq, Repr

/-- The number of bits of a format's words. -/
def Format.width : Format → Nat
  | .sync8 | .cmd8 | .tx8 | .dbus8 | .ctype8 | .romsz8 | .ramsz8 => 8
  | .ramGate24 | .romBank24 _ | .ramBank24 _ | .buswr24 => 24
  | .shift16 | .busrd16 => 16
  | .shift1 => 1

/-- Why a word is refused. -/
inductive DecodeError where
  /-- the word has bits above the format's width -/
  | tooWide
  /-- no outbound control byte (R44) -/
  | notAMarker
  /-- no RAM gate write (R73, R74) -/
  | notARamGateWrite
  /-- no ROM bank write of this variant (R75-R83) -/
  | notARomBankWrite
  /-- no RAM bank write of this variant (R76-R84) -/
  | notARamBankWrite
  deriving DecidableEq, Repr

/-- The row of `SYNC8` a byte scanned in `IDLE` matches (R92). The nine rows partition the 256 values. -/
def decodeSync8 (b : Byte) : Instr :=
  if b = 0xCA then .sync
  else if b &&& 0x80 = 0x00 then .idleDiscard00 (b.setWidth 7)
  else if b &&& 0xC0 = 0x80 then .idleDiscard80 (b.setWidth 6)
  else if b &&& 0xF8 = 0xC0 then .idleDiscardC0 (b.setWidth 3)
  else if b &&& 0xFE = 0xC8 then .idleDiscardC8 (b.setWidth 1)
  else if b = 0xCB then .idleDiscardCB
  else if b &&& 0xFC = 0xCC then .idleDiscardCC (b.setWidth 2)
  else if b &&& 0xF0 = 0xD0 then .idleDiscardD0 (b.setWidth 4)
  else .idleDiscardE0 (b.setWidth 5)

/-- The row of `CMD8` a command byte matches: all eight bits are compared (R41, R42). The twelve rows partition the 256 values. -/
def decodeCmd8 (b : Byte) : Instr :=
  if b = 0x00 then .dumpHdr
  else if b = 0x01 then .dumpRom
  else if b = 0x02 then .dumpRam
  else if b = 0x04 then .flashRam
  else if b = 0x03 then .nop03
  else if b = 0x05 then .nop05
  else if b &&& 0xFE = 0x06 then .nop06 (b.setWidth 1)
  else if b &&& 0xF8 = 0x08 then .nop08 (b.setWidth 3)
  else if b &&& 0xF0 = 0x10 then .nop10 (b.setWidth 4)
  else if b &&& 0xE0 = 0x20 then .nop20 (b.setWidth 5)
  else if b &&& 0xC0 = 0x40 then .nop40 (b.setWidth 6)
  else .nop80 (b.setWidth 7)

/-- The row of `CTYPE8` a `cartridge_type` matches (R51, R87). The rows partition the 256 values. -/
def decodeCtype8 (b : Byte) : Instr :=
  if b = 0x00 then .ctype00RomOnly
  else if b = 0x01 then .ctype01Mbc1
  else if b = 0x02 then .ctype02Mbc1
  else if b = 0x03 then .ctype03Mbc1
  else if b = 0x05 then .ctype05Mbc2
  else if b = 0x06 then .ctype06Mbc2
  else if b = 0x0F then .ctype0FMbc3
  else if b = 0x10 then .ctype10Mbc3
  else if b = 0x11 then .ctype11Mbc3
  else if b = 0x12 then .ctype12Mbc3
  else if b = 0x13 then .ctype13Mbc3
  else if b = 0x19 then .ctype19Mbc5
  else if b = 0x1A then .ctype1AMbc5
  else if b = 0x1B then .ctype1BMbc5
  else if b = 0x1C then .ctype1CMbc5
  else if b = 0x1D then .ctype1DMbc5
  else if b = 0x1E then .ctype1EMbc5
  else if b = 0x04 then .ctypeInvalid04
  else if b = 0x07 then .ctypeInvalid07
  else if b &&& 0xFC = 0x08 then .ctypeInvalid08 (b.setWidth 2)
  else if b &&& 0xFE = 0x0C then .ctypeInvalid0C (b.setWidth 1)
  else if b = 0x0E then .ctypeInvalid0E
  else if b &&& 0xFC = 0x14 then .ctypeInvalid14 (b.setWidth 2)
  else if b = 0x18 then .ctypeInvalid18
  else if b = 0x1F then .ctypeInvalid1F
  else if b &&& 0xE0 = 0x20 then .ctypeInvalid20 (b.setWidth 5)
  else if b &&& 0xC0 = 0x40 then .ctypeInvalid40 (b.setWidth 6)
  else .ctypeInvalid80 (b.setWidth 7)

/-- The row of `ROMSZ8` a `rom_size` matches (R52, R88). The rows partition the 256 values. -/
def decodeRomsz8 (b : Byte) : Instr :=
  if b = 0x00 then .romsz00
  else if b = 0x01 then .romsz01
  else if b = 0x02 then .romsz02
  else if b = 0x03 then .romsz03
  else if b = 0x04 then .romsz04
  else if b = 0x05 then .romsz05
  else if b = 0x06 then .romsz06
  else if b = 0x07 then .romsz07
  else if b = 0x08 then .romsz08
  else if b = 0x09 then .romszInvalid09
  else if b &&& 0xFE = 0x0A then .romszInvalid0A (b.setWidth 1)
  else if b &&& 0xFC = 0x0C then .romszInvalid0C (b.setWidth 2)
  else if b &&& 0xF0 = 0x10 then .romszInvalid10 (b.setWidth 4)
  else if b &&& 0xE0 = 0x20 then .romszInvalid20 (b.setWidth 5)
  else if b &&& 0xC0 = 0x40 then .romszInvalid40 (b.setWidth 6)
  else .romszInvalid80 (b.setWidth 7)

/-- The row of `RAMSZ8` a `ram_size` matches (R53, R89). The rows partition the 256 values. -/
def decodeRamsz8 (b : Byte) : Instr :=
  if b = 0x00 then .ramsz00
  else if b = 0x01 then .ramsz01
  else if b = 0x02 then .ramsz02
  else if b = 0x03 then .ramsz03
  else if b = 0x04 then .ramsz04
  else if b = 0x05 then .ramsz05
  else if b &&& 0xFE = 0x06 then .ramszInvalid06 (b.setWidth 1)
  else if b &&& 0xF8 = 0x08 then .ramszInvalid08 (b.setWidth 3)
  else if b &&& 0xF0 = 0x10 then .ramszInvalid10 (b.setWidth 4)
  else if b &&& 0xE0 = 0x20 then .ramszInvalid20 (b.setWidth 5)
  else if b &&& 0xC0 = 0x40 then .ramszInvalid40 (b.setWidth 6)
  else .ramszInvalid80 (b.setWidth 7)

/-- The outbound control bytes (R44). -/
def decodeTx8 (b : Byte) : Except DecodeError Instr :=
  if b = 0xAB then .ok .ackChunk
  else if b = 0xAA then .ok .endBank
  else .error .notAMarker

/-- The RAM gate writes (R48, R73, R74): address `a`, value `v`. -/
def decodeRamGate (a : Half) (v : Byte) : Except DecodeError Instr :=
  if a = 0x0000 ∧ v = 0x0A then .ok .enableRam
  else if a = 0x0000 ∧ v = 0x00 then .ok .disableRam
  else .error .notARamGateWrite

/-- The ROM bank writes of each variant (R48). RomOnly has none. MBC1's second write is made only with a non-zero
value (R77). -/
def decodeRomBank (k : Variant) (a : Half) (v : Byte) : Except DecodeError Instr :=
  match k with
  | .romOnly => .error .notARomBankWrite
  | .mbc1 =>
    if a = 0x2000 ∧ v &&& 0xE0 = 0 then .ok (.mbc1RomW1 (v.setWidth 5))
    else if a = 0x4000 ∧ v &&& 0xFC = 0 ∧ v ≠ 0 then .ok (.mbc1RomW2 (v.setWidth 2))
    else .error .notARomBankWrite
  | .mbc2 => if a = 0x0100 ∧ v &&& 0xF0 = 0 then .ok (.mbc2Rom (v.setWidth 4)) else .error .notARomBankWrite
  | .mbc3 => if a = 0x2000 ∧ v &&& 0x80 = 0 then .ok (.mbc3Rom (v.setWidth 7)) else .error .notARomBankWrite
  | .mbc5 =>
    if a = 0x3000 ∧ v &&& 0xFE = 0 then .ok (.mbc5RomW1 (v.setWidth 1))
    else if a = 0x2000 then .ok (.mbc5RomW2 v)
    else .error .notARomBankWrite

/-- The RAM bank writes of each variant (R48). RomOnly and MBC2 have none. -/
def decodeRamBank (k : Variant) (a : Half) (v : Byte) : Except DecodeError Instr :=
  match k with
  | .romOnly | .mbc2 => .error .notARamBankWrite
  | .mbc1 => if a = 0x4000 ∧ v &&& 0xFC = 0 then .ok (.mbc1Ram (v.setWidth 2)) else .error .notARamBankWrite
  | .mbc3 => if a = 0x4000 ∧ v &&& 0xFC = 0 then .ok (.mbc3Ram (v.setWidth 2)) else .error .notARamBankWrite
  | .mbc5 => if a = 0x4000 ∧ v &&& 0xF0 = 0 then .ok (.mbc5Ram (v.setWidth 4)) else .error .notARamBankWrite

/-- The address part of a 24-bit pattern (R48): its upper 16 bits. -/
def addressOf (w : Nat) : Half := BitVec.ofNat 16 (w / 256)

/-- The value part of a 24-bit pattern (R48): its lower 8 bits. -/
def valueOf (w : Nat) : Byte := BitVec.ofNat 8 w

/-- A 24-bit pattern: 16 address bits, then 8 value bits (R48). -/
def pattern24 (a : Half) (v : Byte) : Nat := a.toNat * 256 + v.toNat

/-- The instruction a word stands for in a format. Total: every word is an instruction or is refused by name. -/
def decode (f : Format) (w : Nat) : Except DecodeError Instr :=
  if 2 ^ f.width ≤ w then .error .tooWide
  else match f with
    | .sync8 => .ok (decodeSync8 (BitVec.ofNat 8 w))
    | .cmd8 => .ok (decodeCmd8 (BitVec.ofNat 8 w))
    | .tx8 => decodeTx8 (BitVec.ofNat 8 w)
    | .ramGate24 => decodeRamGate (addressOf w) (valueOf w)
    | .romBank24 k => decodeRomBank k (addressOf w) (valueOf w)
    | .ramBank24 k => decodeRamBank k (addressOf w) (valueOf w)
    | .shift16 => .ok (.setAddress (BitVec.ofNat 16 w))
    | .shift1 => .ok (.shiftBit (w == 1))
    | .dbus8 => .ok (.dbWrite (BitVec.ofNat 8 w))
    | .busrd16 => .ok (.readByte (BitVec.ofNat 16 w))
    | .buswr24 => .ok (.writeByte (addressOf w) (valueOf w))
    | .ctype8 => .ok (decodeCtype8 (BitVec.ofNat 8 w))
    | .romsz8 => .ok (decodeRomsz8 (BitVec.ofNat 8 w))
    | .ramsz8 => .ok (decodeRamsz8 (BitVec.ofNat 8 w))

/-- A byte row's word: its match bits, and the bits outside the mask. -/
def byteWord (f : Format) (pat : Nat) (low : Nat) : Option (Format × Nat) := some (f, pat + low)

/-- The words of an instruction: its format and its word (R40-R53). `db_read`'s eight bits are its result, not an operand,
and `OP` rows have an empty encoding: neither has a word (log 13). -/
def encode : Instr → Option (Format × Nat)
  | .sync => byteWord .sync8 0xCA 0
  | .idleDiscard00 low => byteWord .sync8 0x00 low.toNat
  | .idleDiscard80 low => byteWord .sync8 0x80 low.toNat
  | .idleDiscardC0 low => byteWord .sync8 0xC0 low.toNat
  | .idleDiscardC8 low => byteWord .sync8 0xC8 low.toNat
  | .idleDiscardCB => byteWord .sync8 0xCB 0
  | .idleDiscardCC low => byteWord .sync8 0xCC low.toNat
  | .idleDiscardD0 low => byteWord .sync8 0xD0 low.toNat
  | .idleDiscardE0 low => byteWord .sync8 0xE0 low.toNat
  | .dumpHdr => byteWord .cmd8 0x00 0
  | .dumpRom => byteWord .cmd8 0x01 0
  | .dumpRam => byteWord .cmd8 0x02 0
  | .flashRam => byteWord .cmd8 0x04 0
  | .nop03 => byteWord .cmd8 0x03 0
  | .nop05 => byteWord .cmd8 0x05 0
  | .nop06 low => byteWord .cmd8 0x06 low.toNat
  | .nop08 low => byteWord .cmd8 0x08 low.toNat
  | .nop10 low => byteWord .cmd8 0x10 low.toNat
  | .nop20 low => byteWord .cmd8 0x20 low.toNat
  | .nop40 low => byteWord .cmd8 0x40 low.toNat
  | .nop80 low => byteWord .cmd8 0x80 low.toNat
  | .ackChunk => byteWord .tx8 0xAB 0
  | .endBank => byteWord .tx8 0xAA 0
  | .enableRam => some (.ramGate24, pattern24 0x0000 0x0A)
  | .disableRam => some (.ramGate24, pattern24 0x0000 0x00)
  | .mbc1RomW1 b => some (.romBank24 .mbc1, pattern24 0x2000 (b.setWidth 8))
  | .mbc1RomW2 h => some (.romBank24 .mbc1, pattern24 0x4000 (h.setWidth 8))
  | .mbc1Ram r => some (.ramBank24 .mbc1, pattern24 0x4000 (r.setWidth 8))
  | .mbc2Rom b => some (.romBank24 .mbc2, pattern24 0x0100 (b.setWidth 8))
  | .mbc3Rom b => some (.romBank24 .mbc3, pattern24 0x2000 (b.setWidth 8))
  | .mbc3Ram r => some (.ramBank24 .mbc3, pattern24 0x4000 (r.setWidth 8))
  | .mbc5RomW1 h => some (.romBank24 .mbc5, pattern24 0x3000 (h.setWidth 8))
  | .mbc5RomW2 b => some (.romBank24 .mbc5, pattern24 0x2000 (b.setWidth 8))
  | .mbc5Ram r => some (.ramBank24 .mbc5, pattern24 0x4000 (r.setWidth 8))
  | .setAddress a => some (.shift16, a.toNat)
  | .shiftBit b => some (.shift1, b.toNat)
  | .dbWrite v => some (.dbus8, v.toNat)
  | .dbRead => none
  | .readByte a => some (.busrd16, a.toNat)
  | .writeByte a v => some (.buswr24, pattern24 a v)
  | .toOutput => none
  | .toInput => none
  | .readBlock _ => none
  | .delay _ => none
  | .selectRomBank _ => none
  | .selectRamBank _ => none
  | .romOnlyRom _ => none
  | .romOnlyRam _ => none
  | .mbc2Ram _ => none
  | .init => none
  | .decodeHeader => none
  | .idle => none
  | .dispatch => none
  | .raiseFault _ => none
  | .reset => none
  | .ctype00RomOnly => byteWord .ctype8 0x00 0
  | .ctype01Mbc1 => byteWord .ctype8 0x01 0
  | .ctype02Mbc1 => byteWord .ctype8 0x02 0
  | .ctype03Mbc1 => byteWord .ctype8 0x03 0
  | .ctype05Mbc2 => byteWord .ctype8 0x05 0
  | .ctype06Mbc2 => byteWord .ctype8 0x06 0
  | .ctype0FMbc3 => byteWord .ctype8 0x0F 0
  | .ctype10Mbc3 => byteWord .ctype8 0x10 0
  | .ctype11Mbc3 => byteWord .ctype8 0x11 0
  | .ctype12Mbc3 => byteWord .ctype8 0x12 0
  | .ctype13Mbc3 => byteWord .ctype8 0x13 0
  | .ctype19Mbc5 => byteWord .ctype8 0x19 0
  | .ctype1AMbc5 => byteWord .ctype8 0x1A 0
  | .ctype1BMbc5 => byteWord .ctype8 0x1B 0
  | .ctype1CMbc5 => byteWord .ctype8 0x1C 0
  | .ctype1DMbc5 => byteWord .ctype8 0x1D 0
  | .ctype1EMbc5 => byteWord .ctype8 0x1E 0
  | .ctypeInvalid04 => byteWord .ctype8 0x04 0
  | .ctypeInvalid07 => byteWord .ctype8 0x07 0
  | .ctypeInvalid08 low => byteWord .ctype8 0x08 low.toNat
  | .ctypeInvalid0C low => byteWord .ctype8 0x0C low.toNat
  | .ctypeInvalid0E => byteWord .ctype8 0x0E 0
  | .ctypeInvalid14 low => byteWord .ctype8 0x14 low.toNat
  | .ctypeInvalid18 => byteWord .ctype8 0x18 0
  | .ctypeInvalid1F => byteWord .ctype8 0x1F 0
  | .ctypeInvalid20 low => byteWord .ctype8 0x20 low.toNat
  | .ctypeInvalid40 low => byteWord .ctype8 0x40 low.toNat
  | .ctypeInvalid80 low => byteWord .ctype8 0x80 low.toNat
  | .romsz00 => byteWord .romsz8 0x00 0
  | .romsz01 => byteWord .romsz8 0x01 0
  | .romsz02 => byteWord .romsz8 0x02 0
  | .romsz03 => byteWord .romsz8 0x03 0
  | .romsz04 => byteWord .romsz8 0x04 0
  | .romsz05 => byteWord .romsz8 0x05 0
  | .romsz06 => byteWord .romsz8 0x06 0
  | .romsz07 => byteWord .romsz8 0x07 0
  | .romsz08 => byteWord .romsz8 0x08 0
  | .romszInvalid09 => byteWord .romsz8 0x09 0
  | .romszInvalid0A low => byteWord .romsz8 0x0A low.toNat
  | .romszInvalid0C low => byteWord .romsz8 0x0C low.toNat
  | .romszInvalid10 low => byteWord .romsz8 0x10 low.toNat
  | .romszInvalid20 low => byteWord .romsz8 0x20 low.toNat
  | .romszInvalid40 low => byteWord .romsz8 0x40 low.toNat
  | .romszInvalid80 low => byteWord .romsz8 0x80 low.toNat
  | .ramsz00 => byteWord .ramsz8 0x00 0
  | .ramsz01 => byteWord .ramsz8 0x01 0
  | .ramsz02 => byteWord .ramsz8 0x02 0
  | .ramsz03 => byteWord .ramsz8 0x03 0
  | .ramsz04 => byteWord .ramsz8 0x04 0
  | .ramsz05 => byteWord .ramsz8 0x05 0
  | .ramszInvalid06 low => byteWord .ramsz8 0x06 low.toNat
  | .ramszInvalid08 low => byteWord .ramsz8 0x08 low.toNat
  | .ramszInvalid10 low => byteWord .ramsz8 0x10 low.toNat
  | .ramszInvalid20 low => byteWord .ramsz8 0x20 low.toNat
  | .ramszInvalid40 low => byteWord .ramsz8 0x40 low.toNat
  | .ramszInvalid80 low => byteWord .ramsz8 0x80 low.toNat

/-- How many bits of its words a row fixes: the bits of its mask, or the 0s and 1s of its pattern. -/
def fixedBits : Instr → Nat
  | .sync => 8
  | .idleDiscard00 _ => 1
  | .idleDiscard80 _ => 2
  | .idleDiscardC0 _ => 5
  | .idleDiscardC8 _ => 7
  | .idleDiscardCB => 8
  | .idleDiscardCC _ => 6
  | .idleDiscardD0 _ => 4
  | .idleDiscardE0 _ => 3
  | .dumpHdr => 8
  | .dumpRom => 8
  | .dumpRam => 8
  | .flashRam => 8
  | .nop03 => 8
  | .nop05 => 8
  | .nop06 _ => 7
  | .nop08 _ => 5
  | .nop10 _ => 4
  | .nop20 _ => 3
  | .nop40 _ => 2
  | .nop80 _ => 1
  | .ackChunk => 8
  | .endBank => 8
  | .enableRam => 24
  | .disableRam => 24
  | .mbc1RomW1 _ => 19
  | .mbc1RomW2 _ => 22
  | .mbc1Ram _ => 22
  | .mbc2Rom _ => 20
  | .mbc3Rom _ => 17
  | .mbc3Ram _ => 22
  | .mbc5RomW1 _ => 23
  | .mbc5RomW2 _ => 16
  | .mbc5Ram _ => 20
  | .setAddress _ => 0
  | .shiftBit _ => 0
  | .dbWrite _ => 0
  | .dbRead => 0
  | .readByte _ => 0
  | .writeByte _ _ => 0
  | .toOutput => 0
  | .toInput => 0
  | .readBlock _ => 0
  | .delay _ => 0
  | .selectRomBank _ => 0
  | .selectRamBank _ => 0
  | .romOnlyRom _ => 0
  | .romOnlyRam _ => 0
  | .mbc2Ram _ => 0
  | .init => 0
  | .decodeHeader => 0
  | .idle => 0
  | .dispatch => 0
  | .raiseFault _ => 0
  | .reset => 0
  | .ctype00RomOnly => 8
  | .ctype01Mbc1 => 8
  | .ctype02Mbc1 => 8
  | .ctype03Mbc1 => 8
  | .ctype05Mbc2 => 8
  | .ctype06Mbc2 => 8
  | .ctype0FMbc3 => 8
  | .ctype10Mbc3 => 8
  | .ctype11Mbc3 => 8
  | .ctype12Mbc3 => 8
  | .ctype13Mbc3 => 8
  | .ctype19Mbc5 => 8
  | .ctype1AMbc5 => 8
  | .ctype1BMbc5 => 8
  | .ctype1CMbc5 => 8
  | .ctype1DMbc5 => 8
  | .ctype1EMbc5 => 8
  | .ctypeInvalid04 => 8
  | .ctypeInvalid07 => 8
  | .ctypeInvalid08 _ => 6
  | .ctypeInvalid0C _ => 7
  | .ctypeInvalid0E => 8
  | .ctypeInvalid14 _ => 6
  | .ctypeInvalid18 => 8
  | .ctypeInvalid1F => 8
  | .ctypeInvalid20 _ => 3
  | .ctypeInvalid40 _ => 2
  | .ctypeInvalid80 _ => 1
  | .romsz00 => 8
  | .romsz01 => 8
  | .romsz02 => 8
  | .romsz03 => 8
  | .romsz04 => 8
  | .romsz05 => 8
  | .romsz06 => 8
  | .romsz07 => 8
  | .romsz08 => 8
  | .romszInvalid09 => 8
  | .romszInvalid0A _ => 7
  | .romszInvalid0C _ => 6
  | .romszInvalid10 _ => 4
  | .romszInvalid20 _ => 3
  | .romszInvalid40 _ => 2
  | .romszInvalid80 _ => 1
  | .ramsz00 => 8
  | .ramsz01 => 8
  | .ramsz02 => 8
  | .ramsz03 => 8
  | .ramsz04 => 8
  | .ramsz05 => 8
  | .ramszInvalid06 _ => 7
  | .ramszInvalid08 _ => 5
  | .ramszInvalid10 _ => 4
  | .ramszInvalid20 _ => 3
  | .ramszInvalid40 _ => 2
  | .ramszInvalid80 _ => 1

/-- The formats a word of `nbits` bits can be in, in the table's order. -/
def formatsOf (nbits : Nat) : List Format :=
  if nbits = 8 then [.sync8, .cmd8, .tx8, .shift1, .dbus8, .ctype8, .romsz8, .ramsz8]
  else if nbits = 24 then
    [.ramGate24, .romBank24 .mbc1, .ramBank24 .mbc1, .romBank24 .mbc2, .romBank24 .mbc3, .ramBank24 .mbc3,
     .romBank24 .mbc5, .ramBank24 .mbc5, .buswr24]
  else if nbits = 16 then [.shift16, .busrd16]
  else if nbits = 1 then [.shift1]
  else []

/-- Of two readings of one word, the one whose row fixes more bits; the earlier of the two where they fix as many. -/
def moreFixed (best : Option Instr) (i : Instr) : Option Instr :=
  match best with
  | none => some i
  | some j => if fixedBits j < fixedBits i then some i else some j

/-- The table's numbering of words carries no position and no format, which the block's own decoding needs (R36). A word
given by the table's numbering alone is read as the row that fixes the most of its bits, the first in the table's order
where several do (log 11). -/
def decodeTableWord (nbits w : Nat) : Option Instr :=
  if 2 ^ nbits ≤ w then none
  else (formatsOf nbits).foldl
    (fun best f => match decode f w with
      | .ok i => moreFixed best i
      | .error _ => best) none

end Sys2Proof
end

