-- ==== Sys2Proof/Machine/Framer.lean ====
section
/-! DEFINITION. The serial command framer (`45_command_framer.md`, R92-R94) and the two outbound control bytes (R44, R98). -/

namespace Sys2Proof.Machine

/-- `b` is discarded and the framer stays in `IDLE` (R92). -/
def discardByte (s : State) : Out := .next { s with fsm := .idle }

/-- `noop()`: nothing (R94). -/
def noop (s : State) : Out := .next s

/-- `idle()` (R92): take one byte, then the row of `SYNC8` it matches. -/
def execIdle (s : State) : Out := serRead s fun b t => enter [.call (decodeSync8 b)] t

/-- `dispatch()` (R93): take the command byte into `cmd`, `fsm <- EXEC`, then the row of `CMD8` it matches. -/
def execDispatch (s : State) : Out :=
  serRead s fun b t => enter [.call (decodeCmd8 b)] { t with cmd := b, fsm := .exec }

/-- `SYNC`: `fsm <- DISPATCH` (R92). -/
def execSync (s : State) : Out := .next { s with fsm := .dispatch }

/-- `IDLE.DISCARD.00_80`: discarded (R92). -/
def execIdleDiscard00 (_low : BitVec 7) (s : State) : Out := discardByte s

/-- `IDLE.DISCARD.80_C0`: discarded (R92). -/
def execIdleDiscard80 (_low : BitVec 6) (s : State) : Out := discardByte s

/-- `IDLE.DISCARD.C0_F8`: discarded (R92). -/
def execIdleDiscardC0 (_low : BitVec 3) (s : State) : Out := discardByte s

/-- `IDLE.DISCARD.C8_FE`: discarded (R92). -/
def execIdleDiscardC8 (_low : BitVec 1) (s : State) : Out := discardByte s

/-- `IDLE.DISCARD.CB_FF`: discarded (R92). -/
def execIdleDiscardCB (s : State) : Out := discardByte s

/-- `IDLE.DISCARD.CC_FC`: discarded (R92). -/
def execIdleDiscardCC (_low : BitVec 2) (s : State) : Out := discardByte s

/-- `IDLE.DISCARD.D0_F0`: discarded (R92). -/
def execIdleDiscardD0 (_low : BitVec 4) (s : State) : Out := discardByte s

/-- `IDLE.DISCARD.E0_E0`: discarded (R92). -/
def execIdleDiscardE0 (_low : BitVec 5) (s : State) : Out := discardByte s

/-- `NOP.03_FF`: a silent no-op (R42, R94). -/
def execNop03 (s : State) : Out := noop s

/-- `NOP.05_FF`: a silent no-op (R42, R94). -/
def execNop05 (s : State) : Out := noop s

/-- `NOP.06_FE`: a silent no-op (R42, R94). -/
def execNop06 (_low : BitVec 1) (s : State) : Out := noop s

/-- `NOP.08_F8`: a silent no-op (R42, R94). -/
def execNop08 (_low : BitVec 3) (s : State) : Out := noop s

/-- `NOP.10_F0`: a silent no-op (R42, R94). -/
def execNop10 (_low : BitVec 4) (s : State) : Out := noop s

/-- `NOP.20_E0`: a silent no-op (R42, R94). -/
def execNop20 (_low : BitVec 5) (s : State) : Out := noop s

/-- `NOP.40_C0`: a silent no-op (R42, R94). -/
def execNop40 (_low : BitVec 6) (s : State) : Out := noop s

/-- `NOP.80_80`: a silent no-op (R42, R94). -/
def execNop80 (_low : BitVec 7) (s : State) : Out := noop s

/-- `ACK_CHUNK`: `SerWrite(0xAB)` (R98). -/
def execAckChunk (s : State) : Out := serWrite Config.ackChunkByte s id

/-- `END_BANK`: `SerWrite(0xAA)` (R98). -/
def execEndBank (s : State) : Out := serWrite Config.endBankByte s id

end Sys2Proof.Machine
end

