-- ==== Sys2Proof/Machine/Header.lean ====
section
/-! DEFINITION. The cartridge-header decoder (`44_header_decoder.md`, R86-R91). -/

namespace Sys2Proof.Machine

/-- `init()` (R86): one block from 0x0000, the record copied out of it, the three decodes, then `IDLE`. -/
def execInit (s : State) : Out :=
  .next (enter [.call (.readBlock Config.rom0Base), .copyHdr, .call .decodeHeader, .toIdle] s)

/-- `hdr[i] <- buf[0x100 + i]`, i = 0 .. 63 (R86). -/
def lineCopyHdr (s : State) : Out := .next { s with hdr := copyHeader s.buf Config.headerLen s.hdr }

/-- `fsm <- IDLE` (R86). -/
def lineToIdle (s : State) : Out := .next { s with fsm := .idle }

/-- `decode_header()`: type, then ROM size, then RAM size (R90). -/
def execDecodeHeader (s : State) : Out := .next (enter [.decodeMbc, .decodeRomSize, .decodeRamSize] s)

/-- `decode_mbc()`: the row of `CTYPE8` that `hdr[OFF_TYPE]` matches (R87). -/
def lineDecodeMbc (s : State) : Out := .next (enter [.call (decodeCtype8 (cartridgeType s))] s)

/-- `decode_rom_size()`: the row of `ROMSZ8` that `hdr[OFF_ROM]` matches (R88). -/
def lineDecodeRomSize (s : State) : Out := .next (enter [.call (decodeRomsz8 (romSize s))] s)

/-- `decode_ram_size()`: the row of `RAMSZ8` that `hdr[OFF_RAM]` matches (R89). -/
def lineDecodeRamSize (s : State) : Out := .next (enter [.call (decodeRamsz8 (ramSize s))] s)

/-- `variant <- k` (R87). -/
def setVariant (k : Variant) (s : State) : Out := .next { s with variant := k }

/-- `rom_banks <- n` (R88). -/
def setRomBanks (n : BitVec 10) (s : State) : Out := .next { s with romBanks := n }

/-- `ram_banks <- n` (R89). -/
def setRamBanks (n : BitVec 5) (s : State) : Out := .next { s with ramBanks := n }

/-- `CTYPE.00.RomOnly`: RomOnly (R51, R87). -/
def execCtype00RomOnly (s : State) : Out := setVariant .romOnly s

/-- `CTYPE.01.MBC1`: MBC1 (R51, R87). -/
def execCtype01Mbc1 (s : State) : Out := setVariant .mbc1 s

/-- `CTYPE.02.MBC1`: MBC1 (R51, R87). -/
def execCtype02Mbc1 (s : State) : Out := setVariant .mbc1 s

/-- `CTYPE.03.MBC1`: MBC1 (R51, R87). -/
def execCtype03Mbc1 (s : State) : Out := setVariant .mbc1 s

/-- `CTYPE.05.MBC2`: MBC2 (R51, R87). -/
def execCtype05Mbc2 (s : State) : Out := setVariant .mbc2 s

/-- `CTYPE.06.MBC2`: MBC2 (R51, R87). -/
def execCtype06Mbc2 (s : State) : Out := setVariant .mbc2 s

/-- `CTYPE.0F.MBC3`: MBC3 (R51, R87). -/
def execCtype0FMbc3 (s : State) : Out := setVariant .mbc3 s

/-- `CTYPE.10.MBC3`: MBC3 (R51, R87). -/
def execCtype10Mbc3 (s : State) : Out := setVariant .mbc3 s

/-- `CTYPE.11.MBC3`: MBC3 (R51, R87). -/
def execCtype11Mbc3 (s : State) : Out := setVariant .mbc3 s

/-- `CTYPE.12.MBC3`: MBC3 (R51, R87). -/
def execCtype12Mbc3 (s : State) : Out := setVariant .mbc3 s

/-- `CTYPE.13.MBC3`: MBC3 (R51, R87). -/
def execCtype13Mbc3 (s : State) : Out := setVariant .mbc3 s

/-- `CTYPE.19.MBC5`: MBC5 (R51, R87). -/
def execCtype19Mbc5 (s : State) : Out := setVariant .mbc5 s

/-- `CTYPE.1A.MBC5`: MBC5 (R51, R87). -/
def execCtype1AMbc5 (s : State) : Out := setVariant .mbc5 s

/-- `CTYPE.1B.MBC5`: MBC5 (R51, R87). -/
def execCtype1BMbc5 (s : State) : Out := setVariant .mbc5 s

/-- `CTYPE.1C.MBC5`: MBC5 (R51, R87). -/
def execCtype1CMbc5 (s : State) : Out := setVariant .mbc5 s

/-- `CTYPE.1D.MBC5`: MBC5 (R51, R87). -/
def execCtype1DMbc5 (s : State) : Out := setVariant .mbc5 s

/-- `CTYPE.1E.MBC5`: MBC5 (R51, R87). -/
def execCtype1EMbc5 (s : State) : Out := setVariant .mbc5 s

/-- `CTYPE.INVALID.04_FF`: decode failure, Fault(2) (R51, R87). -/
def execCtypeInvalid04 (s : State) : Out := .next (takeFault .unknownCartridgeType s)

/-- `CTYPE.INVALID.07_FF`: decode failure, Fault(2) (R51, R87). -/
def execCtypeInvalid07 (s : State) : Out := .next (takeFault .unknownCartridgeType s)

/-- `CTYPE.INVALID.08_FC`: decode failure, Fault(2) (R51, R87). -/
def execCtypeInvalid08 (_low : BitVec 2) (s : State) : Out := .next (takeFault .unknownCartridgeType s)

/-- `CTYPE.INVALID.0C_FE`: decode failure, Fault(2) (R51, R87). -/
def execCtypeInvalid0C (_low : BitVec 1) (s : State) : Out := .next (takeFault .unknownCartridgeType s)

/-- `CTYPE.INVALID.0E_FF`: decode failure, Fault(2) (R51, R87). -/
def execCtypeInvalid0E (s : State) : Out := .next (takeFault .unknownCartridgeType s)

/-- `CTYPE.INVALID.14_FC`: decode failure, Fault(2) (R51, R87). -/
def execCtypeInvalid14 (_low : BitVec 2) (s : State) : Out := .next (takeFault .unknownCartridgeType s)

/-- `CTYPE.INVALID.18_FF`: decode failure, Fault(2) (R51, R87). -/
def execCtypeInvalid18 (s : State) : Out := .next (takeFault .unknownCartridgeType s)

/-- `CTYPE.INVALID.1F_FF`: decode failure, Fault(2) (R51, R87). -/
def execCtypeInvalid1F (s : State) : Out := .next (takeFault .unknownCartridgeType s)

/-- `CTYPE.INVALID.20_E0`: decode failure, Fault(2) (R51, R87). -/
def execCtypeInvalid20 (_low : BitVec 5) (s : State) : Out := .next (takeFault .unknownCartridgeType s)

/-- `CTYPE.INVALID.40_C0`: decode failure, Fault(2) (R51, R87). -/
def execCtypeInvalid40 (_low : BitVec 6) (s : State) : Out := .next (takeFault .unknownCartridgeType s)

/-- `CTYPE.INVALID.80_80`: decode failure, Fault(2) (R51, R87). -/
def execCtypeInvalid80 (_low : BitVec 7) (s : State) : Out := .next (takeFault .unknownCartridgeType s)

/-- `ROMSZ.00`: 2 banks (R52, R88). -/
def execRomsz00 (s : State) : Out := setRomBanks (romBanksOf 0) s

/-- `ROMSZ.01`: 4 banks (R52, R88). -/
def execRomsz01 (s : State) : Out := setRomBanks (romBanksOf 1) s

/-- `ROMSZ.02`: 8 banks (R52, R88). -/
def execRomsz02 (s : State) : Out := setRomBanks (romBanksOf 2) s

/-- `ROMSZ.03`: 16 banks (R52, R88). -/
def execRomsz03 (s : State) : Out := setRomBanks (romBanksOf 3) s

/-- `ROMSZ.04`: 32 banks (R52, R88). -/
def execRomsz04 (s : State) : Out := setRomBanks (romBanksOf 4) s

/-- `ROMSZ.05`: 64 banks (R52, R88). -/
def execRomsz05 (s : State) : Out := setRomBanks (romBanksOf 5) s

/-- `ROMSZ.06`: 128 banks (R52, R88). -/
def execRomsz06 (s : State) : Out := setRomBanks (romBanksOf 6) s

/-- `ROMSZ.07`: 256 banks (R52, R88). -/
def execRomsz07 (s : State) : Out := setRomBanks (romBanksOf 7) s

/-- `ROMSZ.08`: 512 banks (R52, R88). -/
def execRomsz08 (s : State) : Out := setRomBanks (romBanksOf 8) s

/-- `ROMSZ.INVALID.09_FF`: decode failure, Fault(4) (R52, R88). -/
def execRomszInvalid09 (s : State) : Out := .next (takeFault .romSizeOutOfRange s)

/-- `ROMSZ.INVALID.0A_FE`: decode failure, Fault(4) (R52, R88). -/
def execRomszInvalid0A (_low : BitVec 1) (s : State) : Out := .next (takeFault .romSizeOutOfRange s)

/-- `ROMSZ.INVALID.0C_FC`: decode failure, Fault(4) (R52, R88). -/
def execRomszInvalid0C (_low : BitVec 2) (s : State) : Out := .next (takeFault .romSizeOutOfRange s)

/-- `ROMSZ.INVALID.10_F0`: decode failure, Fault(4) (R52, R88). -/
def execRomszInvalid10 (_low : BitVec 4) (s : State) : Out := .next (takeFault .romSizeOutOfRange s)

/-- `ROMSZ.INVALID.20_E0`: decode failure, Fault(4) (R52, R88). -/
def execRomszInvalid20 (_low : BitVec 5) (s : State) : Out := .next (takeFault .romSizeOutOfRange s)

/-- `ROMSZ.INVALID.40_C0`: decode failure, Fault(4) (R52, R88). -/
def execRomszInvalid40 (_low : BitVec 6) (s : State) : Out := .next (takeFault .romSizeOutOfRange s)

/-- `ROMSZ.INVALID.80_80`: decode failure, Fault(4) (R52, R88). -/
def execRomszInvalid80 (_low : BitVec 7) (s : State) : Out := .next (takeFault .romSizeOutOfRange s)

/-- `RAMSZ.00`: 0 banks (R53, R89). -/
def execRamsz00 (s : State) : Out := setRamBanks 0 s

/-- `RAMSZ.01`: 0 banks (R53, R89). -/
def execRamsz01 (s : State) : Out := setRamBanks 0 s

/-- `RAMSZ.02`: 1 banks (R53, R89). -/
def execRamsz02 (s : State) : Out := setRamBanks 1 s

/-- `RAMSZ.03`: 4 banks (R53, R89). -/
def execRamsz03 (s : State) : Out := setRamBanks 4 s

/-- `RAMSZ.04`: 16 banks (R53, R89). -/
def execRamsz04 (s : State) : Out := setRamBanks 16 s

/-- `RAMSZ.05`: 8 banks (R53, R89). -/
def execRamsz05 (s : State) : Out := setRamBanks 8 s

/-- `RAMSZ.INVALID.06_FE`: decode failure, Fault(3) (R53, R89). -/
def execRamszInvalid06 (_low : BitVec 1) (s : State) : Out := .next (takeFault .unknownRamSize s)

/-- `RAMSZ.INVALID.08_F8`: decode failure, Fault(3) (R53, R89). -/
def execRamszInvalid08 (_low : BitVec 3) (s : State) : Out := .next (takeFault .unknownRamSize s)

/-- `RAMSZ.INVALID.10_F0`: decode failure, Fault(3) (R53, R89). -/
def execRamszInvalid10 (_low : BitVec 4) (s : State) : Out := .next (takeFault .unknownRamSize s)

/-- `RAMSZ.INVALID.20_E0`: decode failure, Fault(3) (R53, R89). -/
def execRamszInvalid20 (_low : BitVec 5) (s : State) : Out := .next (takeFault .unknownRamSize s)

/-- `RAMSZ.INVALID.40_C0`: decode failure, Fault(3) (R53, R89). -/
def execRamszInvalid40 (_low : BitVec 6) (s : State) : Out := .next (takeFault .unknownRamSize s)

/-- `RAMSZ.INVALID.80_80`: decode failure, Fault(3) (R53, R89). -/
def execRamszInvalid80 (_low : BitVec 7) (s : State) : Out := .next (takeFault .unknownRamSize s)

end Sys2Proof.Machine
end

