-- ==== Sys2Proof/Machine/Mbc.lean ====
section
/-! DEFINITION. The MBC bank-switch command translator (`43_mbc_translator.md`, R72-R85). -/

namespace Sys2Proof.Machine

/-- One MBC control write, a whole `write_byte` transaction (R48). -/
def controlWrite (a : Half) (v : Byte) (s : State) : Out := .next (enter [.call (.writeByte a v)] s)

/-- `enable_ram()` (R73), for all five variants. -/
def execEnableRam (s : State) : Out := controlWrite 0x0000 Config.ramEnable s

/-- `disable_ram()` (R74), for all five variants. -/
def execDisableRam (s : State) : Out := controlWrite 0x0000 Config.ramDisable s

/-- MBC1, the low ROM write (R77). -/
def execMbc1RomW1 (b : BitVec 5) (s : State) : Out := controlWrite 0x2000 (b.setWidth 8) s

/-- MBC1, the upper ROM write: `if hi != 0: write_byte(0x4000, hi)` (R77). -/
def execMbc1RomW2 (h : BitVec 2) (s : State) : Out := 
  if upperBitsSet h then controlWrite 0x4000 (h.setWidth 8) s else .next s

/-- MBC1, the RAM bank write (R78). -/
def execMbc1Ram (r : BitVec 2) (s : State) : Out := controlWrite 0x4000 (r.setWidth 8) s

/-- MBC2, the ROM bank write (R79). -/
def execMbc2Rom (b : BitVec 4) (s : State) : Out := controlWrite 0x0100 (b.setWidth 8) s

/-- MBC3, the ROM bank write (R81). -/
def execMbc3Rom (b : BitVec 7) (s : State) : Out := controlWrite 0x2000 (b.setWidth 8) s

/-- MBC3, the RAM bank write (R82). -/
def execMbc3Ram (r : BitVec 2) (s : State) : Out := controlWrite 0x4000 (r.setWidth 8) s

/-- MBC5, the high-bit ROM write, always made (R83). -/
def execMbc5RomW1 (h : BitVec 1) (s : State) : Out := controlWrite 0x3000 (h.setWidth 8) s

/-- MBC5, the low ROM write (R83). -/
def execMbc5RomW2 (b : BitVec 8) (s : State) : Out := controlWrite 0x2000 b s

/-- MBC5, the RAM bank write (R84). -/
def execMbc5Ram (r : BitVec 4) (s : State) : Out := controlWrite 0x4000 (r.setWidth 8) s

/-- RomOnly `select_rom_bank`: unsupported, Fault(1), no bus event (R75). -/
def execRomOnlyRom (_n : Half) (s : State) : Out := .next (takeFault .unsupportedOperation s)

/-- RomOnly `select_ram_bank`: unsupported, Fault(1), no bus event (R76). -/
def execRomOnlyRam (_n : Byte) (s : State) : Out := .next (takeFault .unsupportedOperation s)

/-- MBC2 `select_ram_bank`: unsupported, Fault(1), no bus event (R80). -/
def execMbc2Ram (_n : Byte) (s : State) : Out := .next (takeFault .unsupportedOperation s)

/-- The writes of `select_rom_bank(bank)` for a variant, in the order they are made (R48, R72, R75-R83). -/
def romSelectLines (k : Variant) (n : Half) : List Task :=
  match k with
  | .romOnly => [.call (.romOnlyRom n)]
  | .mbc1 =>
    .call (.mbc1RomW1 (mbc1Low n)) ::
      (if upperBitsSet (mbc1High n) then [.call (.mbc1RomW2 (mbc1High n))] else [])
  | .mbc2 => [.call (.mbc2Rom (mbc2Low n))]
  | .mbc3 => [.call (.mbc3Rom (mbc3Low n))]
  | .mbc5 => [.call (.mbc5RomW1 (mbc5High n)), .call (.mbc5RomW2 (mbc5Low n))]

/-- The write of `select_ram_bank(bank)` for a variant (R48, R72, R76-R84). -/
def ramSelectLines (k : Variant) (n : Byte) : List Task :=
  match k with
  | .romOnly => [.call (.romOnlyRam n)]
  | .mbc1 => [.call (.mbc1Ram (ramLow2 n))]
  | .mbc2 => [.call (.mbc2Ram n)]
  | .mbc3 => [.call (.mbc3Ram (ramLow2 n))]
  | .mbc5 => [.call (.mbc5Ram (ramLow4 n))]

/-- `select_rom_bank(bank)` (R72): a five-way case on `variant`. -/
def execSelectRomBank (n : Half) (s : State) : Out := .next (enter (romSelectLines s.variant n) s)

/-- `select_ram_bank(bank)` (R72): a five-way case on `variant`. -/
def execSelectRamBank (n : Byte) (s : State) : Out := .next (enter (ramSelectLines s.variant n) s)

end Sys2Proof.Machine
end

