-- ==== Sys2Proof/Machine/Shifter.lean ====
section
/-! DEFINITION. The address shift-register serializer (`40_address_shifter.md`, R55-R58). -/

namespace Sys2Proof.Machine

/-- One turn of `set_address`'s loop: shift the bit of `areg` that `bitn` names, then the end of the turn (R55). -/
def bitLines (s : State) : List Task := [.call (.shiftBit (s.areg.getLsbD s.bitn.toNat)), .nextBit]

/-- `set_address(addr)` (R55): latch low, the sixteen bits in order of their number, latch high. The document's two loops
over the low and the high byte are one loop over bit 0 to bit 15. DESIGN CHOICE (log 17): `bitn` takes its first value, 0, with `areg`,
before the latch goes low. -/
def execSetAddress (a : Half) (s : State) : Out :=
  let s1 := { s with areg := a, bitn := 0 }
  .next (enter (.set .srLatch false :: bitLines s1 ++ [.set .srLatch true]) s1)

/-- The end of one turn of that loop: the next bit, up to bit 15 (R55). -/
def lineNextBit (s : State) : Out :=
  if s.bitn < 15 then
    let s1 := { s with bitn := s.bitn + 1 }
    .next (enter (bitLines s1) s1)
  else .next s

/-- `shift_bit(b)` (R56): data first, then the clock up and down. -/
def execShiftBit (b : Bool) (s : State) : Out :=
  .next (enter [.set .srData b, .set .srClk true, .set .srClk false] s)

end Sys2Proof.Machine
end

