-- ==== Sys2Proof/Machine/System.lean ====
section
/-! DEFINITION. Fault entry as an operation (R103) and reset (R114). -/

namespace Sys2Proof.Machine

/-- `raise Fault(code)` (R103). -/
def execRaiseFault (c : FaultCode) (s : State) : Out := .next (takeFault c s)

/-- `RST` (R114): every register of the block at its reset value. Refused in the middle of an operation (U9, D28). -/
def execReset (s : State) : Out :=
  if resettable s then .next (resetBlock s) else .refused .midRunReset

end Sys2Proof.Machine
end

