-- ==== Sys2Proof/Machine/Dispatch.lean ====
section
/-! DEFINITION. The meaning of every row of the opcode table, one arm each. -/

namespace Sys2Proof.Machine

def exec (i : Instr) (s : State) : Host.Outcome State Fault Refusal :=
  match i with
  | .sync => Sys2Proof.Machine.execSync s
  | .idleDiscard00 low => Sys2Proof.Machine.execIdleDiscard00 low s
  | .idleDiscard80 low => Sys2Proof.Machine.execIdleDiscard80 low s
  | .idleDiscardC0 low => Sys2Proof.Machine.execIdleDiscardC0 low s
  | .idleDiscardC8 low => Sys2Proof.Machine.execIdleDiscardC8 low s
  | .idleDiscardCB => Sys2Proof.Machine.execIdleDiscardCB s
  | .idleDiscardCC low => Sys2Proof.Machine.execIdleDiscardCC low s
  | .idleDiscardD0 low => Sys2Proof.Machine.execIdleDiscardD0 low s
  | .idleDiscardE0 low => Sys2Proof.Machine.execIdleDiscardE0 low s
  | .dumpHdr => Sys2Proof.Machine.execDumpHdr s
  | .dumpRom => Sys2Proof.Machine.execDumpRom s
  | .dumpRam => Sys2Proof.Machine.execDumpRam s
  | .flashRam => Sys2Proof.Machine.execFlashRam s
  | .nop03 => Sys2Proof.Machine.execNop03 s
  | .nop05 => Sys2Proof.Machine.execNop05 s
  | .nop06 low => Sys2Proof.Machine.execNop06 low s
  | .nop08 low => Sys2Proof.Machine.execNop08 low s
  | .nop10 low => Sys2Proof.Machine.execNop10 low s
  | .nop20 low => Sys2Proof.Machine.execNop20 low s
  | .nop40 low => Sys2Proof.Machine.execNop40 low s
  | .nop80 low => Sys2Proof.Machine.execNop80 low s
  | .ackChunk => Sys2Proof.Machine.execAckChunk s
  | .endBank => Sys2Proof.Machine.execEndBank s
  | .enableRam => Sys2Proof.Machine.execEnableRam s
  | .disableRam => Sys2Proof.Machine.execDisableRam s
  | .mbc1RomW1 b => Sys2Proof.Machine.execMbc1RomW1 b s
  | .mbc1RomW2 h => Sys2Proof.Machine.execMbc1RomW2 h s
  | .mbc1Ram r => Sys2Proof.Machine.execMbc1Ram r s
  | .mbc2Rom b => Sys2Proof.Machine.execMbc2Rom b s
  | .mbc3Rom b => Sys2Proof.Machine.execMbc3Rom b s
  | .mbc3Ram r => Sys2Proof.Machine.execMbc3Ram r s
  | .mbc5RomW1 h => Sys2Proof.Machine.execMbc5RomW1 h s
  | .mbc5RomW2 b => Sys2Proof.Machine.execMbc5RomW2 b s
  | .mbc5Ram r => Sys2Proof.Machine.execMbc5Ram r s
  | .setAddress a => Sys2Proof.Machine.execSetAddress a s
  | .shiftBit b => Sys2Proof.Machine.execShiftBit b s
  | .dbWrite v => Sys2Proof.Machine.execDbWrite v s
  | .dbRead => Sys2Proof.Machine.execDbRead s
  | .readByte a => Sys2Proof.Machine.execReadByte a s
  | .writeByte a v => Sys2Proof.Machine.execWriteByte a v s
  | .toOutput => Sys2Proof.Machine.execToOutput s
  | .toInput => Sys2Proof.Machine.execToInput s
  | .readBlock a => Sys2Proof.Machine.execReadBlock a s
  | .delay t => Sys2Proof.Machine.execDelay t s
  | .selectRomBank n => Sys2Proof.Machine.execSelectRomBank n s
  | .selectRamBank n => Sys2Proof.Machine.execSelectRamBank n s
  | .romOnlyRom n => Sys2Proof.Machine.execRomOnlyRom n s
  | .romOnlyRam n => Sys2Proof.Machine.execRomOnlyRam n s
  | .mbc2Ram n => Sys2Proof.Machine.execMbc2Ram n s
  | .init => Sys2Proof.Machine.execInit s
  | .decodeHeader => Sys2Proof.Machine.execDecodeHeader s
  | .idle => Sys2Proof.Machine.execIdle s
  | .dispatch => Sys2Proof.Machine.execDispatch s
  | .raiseFault c => Sys2Proof.Machine.execRaiseFault c s
  | .reset => Sys2Proof.Machine.execReset s
  | .ctype00RomOnly => Sys2Proof.Machine.execCtype00RomOnly s
  | .ctype01Mbc1 => Sys2Proof.Machine.execCtype01Mbc1 s
  | .ctype02Mbc1 => Sys2Proof.Machine.execCtype02Mbc1 s
  | .ctype03Mbc1 => Sys2Proof.Machine.execCtype03Mbc1 s
  | .ctype05Mbc2 => Sys2Proof.Machine.execCtype05Mbc2 s
  | .ctype06Mbc2 => Sys2Proof.Machine.execCtype06Mbc2 s
  | .ctype0FMbc3 => Sys2Proof.Machine.execCtype0FMbc3 s
  | .ctype10Mbc3 => Sys2Proof.Machine.execCtype10Mbc3 s
  | .ctype11Mbc3 => Sys2Proof.Machine.execCtype11Mbc3 s
  | .ctype12Mbc3 => Sys2Proof.Machine.execCtype12Mbc3 s
  | .ctype13Mbc3 => Sys2Proof.Machine.execCtype13Mbc3 s
  | .ctype19Mbc5 => Sys2Proof.Machine.execCtype19Mbc5 s
  | .ctype1AMbc5 => Sys2Proof.Machine.execCtype1AMbc5 s
  | .ctype1BMbc5 => Sys2Proof.Machine.execCtype1BMbc5 s
  | .ctype1CMbc5 => Sys2Proof.Machine.execCtype1CMbc5 s
  | .ctype1DMbc5 => Sys2Proof.Machine.execCtype1DMbc5 s
  | .ctype1EMbc5 => Sys2Proof.Machine.execCtype1EMbc5 s
  | .ctypeInvalid04 => Sys2Proof.Machine.execCtypeInvalid04 s
  | .ctypeInvalid07 => Sys2Proof.Machine.execCtypeInvalid07 s
  | .ctypeInvalid08 low => Sys2Proof.Machine.execCtypeInvalid08 low s
  | .ctypeInvalid0C low => Sys2Proof.Machine.execCtypeInvalid0C low s
  | .ctypeInvalid0E => Sys2Proof.Machine.execCtypeInvalid0E s
  | .ctypeInvalid14 low => Sys2Proof.Machine.execCtypeInvalid14 low s
  | .ctypeInvalid18 => Sys2Proof.Machine.execCtypeInvalid18 s
  | .ctypeInvalid1F => Sys2Proof.Machine.execCtypeInvalid1F s
  | .ctypeInvalid20 low => Sys2Proof.Machine.execCtypeInvalid20 low s
  | .ctypeInvalid40 low => Sys2Proof.Machine.execCtypeInvalid40 low s
  | .ctypeInvalid80 low => Sys2Proof.Machine.execCtypeInvalid80 low s
  | .romsz00 => Sys2Proof.Machine.execRomsz00 s
  | .romsz01 => Sys2Proof.Machine.execRomsz01 s
  | .romsz02 => Sys2Proof.Machine.execRomsz02 s
  | .romsz03 => Sys2Proof.Machine.execRomsz03 s
  | .romsz04 => Sys2Proof.Machine.execRomsz04 s
  | .romsz05 => Sys2Proof.Machine.execRomsz05 s
  | .romsz06 => Sys2Proof.Machine.execRomsz06 s
  | .romsz07 => Sys2Proof.Machine.execRomsz07 s
  | .romsz08 => Sys2Proof.Machine.execRomsz08 s
  | .romszInvalid09 => Sys2Proof.Machine.execRomszInvalid09 s
  | .romszInvalid0A low => Sys2Proof.Machine.execRomszInvalid0A low s
  | .romszInvalid0C low => Sys2Proof.Machine.execRomszInvalid0C low s
  | .romszInvalid10 low => Sys2Proof.Machine.execRomszInvalid10 low s
  | .romszInvalid20 low => Sys2Proof.Machine.execRomszInvalid20 low s
  | .romszInvalid40 low => Sys2Proof.Machine.execRomszInvalid40 low s
  | .romszInvalid80 low => Sys2Proof.Machine.execRomszInvalid80 low s
  | .ramsz00 => Sys2Proof.Machine.execRamsz00 s
  | .ramsz01 => Sys2Proof.Machine.execRamsz01 s
  | .ramsz02 => Sys2Proof.Machine.execRamsz02 s
  | .ramsz03 => Sys2Proof.Machine.execRamsz03 s
  | .ramsz04 => Sys2Proof.Machine.execRamsz04 s
  | .ramsz05 => Sys2Proof.Machine.execRamsz05 s
  | .ramszInvalid06 low => Sys2Proof.Machine.execRamszInvalid06 low s
  | .ramszInvalid08 low => Sys2Proof.Machine.execRamszInvalid08 low s
  | .ramszInvalid10 low => Sys2Proof.Machine.execRamszInvalid10 low s
  | .ramszInvalid20 low => Sys2Proof.Machine.execRamszInvalid20 low s
  | .ramszInvalid40 low => Sys2Proof.Machine.execRamszInvalid40 low s
  | .ramszInvalid80 low => Sys2Proof.Machine.execRamszInvalid80 low s

end Sys2Proof.Machine
end

