-- ==== Sys2Proof/Machine/Sequencer.lean ====
section
/-! DEFINITION. What the sequencer does at a position: one pending line (R17), or, with no line pending, what its control
state does next. -/

namespace Sys2Proof.Machine

/-- `pin <- b` (R7). -/
def lineSet (p : Pin) (b : Bool) (s : State) : Out := .next (setPin p b s)

/-- Run one pending line, already taken off the position. -/
def runLine (t : Task) (s : State) : Out :=
  match t with
  | .call i => exec i s
  | .set p b => lineSet p b s
  | .nextBit => lineNextBit s
  | .delayEnd d => lineDelayEnd d s
  | .storeByte a => lineStoreByte a s
  | .copyHdr => lineCopyHdr s
  | .decodeMbc => lineDecodeMbc s
  | .decodeRomSize => lineDecodeRomSize s
  | .decodeRamSize => lineDecodeRamSize s
  | .toIdle => lineToIdle s
  | .sendHdr => lineSendHdr s
  | .romBank => lineRomBank s
  | .nextRomBank => lineNextRomBank s
  | .blkLoop base last => lineBlkLoop base last s
  | .nextBlk base last => lineNextBlk base last s
  | .sendLoop => lineSendLoop s
  | .sendBuf => lineSendBuf s
  | .ramBank => lineRamBank s
  | .nextRamBank => lineNextRamBank s
  | .flashBank => lineFlashBank s
  | .nextFlashBank => lineNextFlashBank s
  | .chunkLoop => lineChunkLoop s
  | .nextChunk => lineNextChunk s
  | .recvLoop => lineRecvLoop s
  | .recvByte => lineRecvByte s
  | .writeLoop => lineWriteLoop s
  | .writeChunk => lineWriteChunk s
  | .nextWrite => lineNextWrite s

/-- With no line pending (R17): `INIT` runs `init`, `IDLE` runs `idle`, `DISPATCH` runs `dispatch`, a command at its end
goes back to `IDLE` (R93), and `FAULT` is terminal (R103). -/
def runControl (s : State) : Out :=
  match s.fsm with
  | .init => exec .init s
  | .idle => exec .idle s
  | .dispatch => exec .dispatch s
  | .exec => lineToIdle s
  | .fault => .fault .stopped

/-- The sequencer: nothing runs in `FAULT` (R103). -/
def runBlock (s : State) : Out :=
  if s.fsm = .fault then .fault .stopped
  else match s.work with
    | [] => runControl s
    | t :: rest => runLine t { s with work := rest }

end Sys2Proof.Machine
end

