-- ==== Sys2Proof/Machine/Step.lean ====
section
/-! DEFINITION. One step: the reset while `RST` is asserted (R114), else one line of the sequencer. A step makes at most
one event (R7, log 1). -/

namespace Sys2Proof.Machine

/-- One step of the block. -/
def step (s : State) : Host.Outcome State Fault Refusal :=
  if s.rst then exec .reset s else runBlock s

/-- The state whose next step runs the operation a table word stands for. The block fetches no instructions (R36): its
next operation is the next line of its position, so the operation is put there (log 12). `RST` is released and `FAULT`
left, because nothing is fetched in either. -/
def State.withFetchWord (s : State) (nbits w : Nat) : State :=
  match decodeTableWord nbits w with
  | some i =>
    { s with
      work := .call i :: s.work
      rst := false
      fsm := if s.fsm = .fault then .exec else s.fsm }
  | none => s

end Sys2Proof.Machine
end

