-- ==== Sys2Proof/Safety.lean ====
section
/-! DEFINITION. The terms claims use: runs of the machine; what each operation leaves behind when it has run to its end,
written directly from the pseudocode as one function of the state (the event-by-event machine is claimed to agree with
it); and the invariants of the machine. -/

namespace Sys2Proof.Machine

/-! ## Runs -/

/-- Some number of steps leads from `s` to `t`. -/
def Reaches (s t : State) : Prop := ∃ n, Host.Core.run Sys2Proof.core n s = .next t

/-- The operation `i`, entered in `s`, runs on to `t`. -/
def Completes (i : Instr) (s t : State) : Prop := ∃ s1, exec i s = .next s1 ∧ Reaches s1 t

/-- The sequencer runs: reset is released and the block has not stopped. -/
def running (s : State) : Bool := !s.rst && s.fsm ≠ .fault

/-- The data lines and strobes never ask two sides to drive (R71). -/
def noContention (s : State) : Bool := !(s.dir = .output && !s.rdN) && !(!s.rdN && !s.wrN)

/-! ## Event sequences, in the order of time -/

/-- The 50 events of `set_address(a)` (R45, R55). -/
def addressEvents (a : Half) : List Event :=
  .set .srLatch false ::
    ((List.range 16).flatMap fun k => [.set .srData (a.getLsbD k), .set .srClk true, .set .srClk false])
    ++ [.set .srLatch true]

/-- The events of `read_byte(a)` before its `Sample` (R65). -/
def readPrefix (a : Half) (cfg : Config.Params) : List Event :=
  [.set .wrN true, .set .rdN false] ++ addressEvents a
    ++ (if 0 < cfg.tRdSettle then [.delay cfg.tRdSettle] else [])

/-- The events of `read_byte(a)` that returns `v` (R65). -/
def readEvents (a : Half) (v : Byte) (cfg : Config.Params) : List Event :=
  readPrefix a cfg ++ [.sample (pinMap v), .set .rdN true]

/-- The 59 events of `write_byte(a, v)` (R66). -/
def writeEvents (a : Half) (v : Byte) : List Event :=
  .setDir .output :: addressEvents a
    ++ [.setDQ (pinMap v), .delay Config.tWrSetup, .set .rdN true, .set .wrN false, .delay Config.tWrPulse,
      .set .wrN true, .setDQ 0, .setDir .input]

/-- The history with a sequence of events added. -/
def happened (es : List Event) (s : State) : List Event := es.reverse ++ s.trace

/-- The time the delays of a sequence of events take at least, in nanoseconds (R126). -/
def delayTotal : List Event → Nat
  | [] => 0
  | .delay t :: es => t + delayTotal es
  | _ :: es => delayTotal es

/-! ## Where whole operations lead -/

/-- After `set_address(a)` (R55, R57, R58). -/
def afterAddress (a : Half) (s : State) : State :=
  { s with
    areg := a, bitn := 15, srLatch := true, srClk := false, srData := a.getLsbD 15,
    extQ := a, extA := a, trace := happened (addressEvents a) s }

/-- The byte `read_byte(a)` returns: the environment's next answer, or what the oracle drives for the history up to the
`Sample` and the address `a` (R33, R65). -/
def readValue (a : Half) (s : State) : Byte :=
  match s.answers with
  | b :: _ => b
  | [] => Config.cartRead (happened (readPrefix a s.cfg) s) a

/-- After `read_byte(a)` (R65). -/
def afterRead (a : Half) (s : State) : State :=
  { s with
    areg := a, bitn := 15, dreg := readValue a s, srLatch := true, srClk := false, srData := a.getLsbD 15,
    rdN := true, wrN := true, extQ := a, extA := a, answers := s.answers.tail,
    tmr := if 0 < s.cfg.tRdSettle then 0 else s.tmr,
    trace := happened (readEvents a (readValue a s) s.cfg) s }

/-- After `write_byte(a, v)` (R66). -/
def afterWrite (a : Half) (v : Byte) (s : State) : State :=
  { s with
    areg := a, bitn := 15, dreg := 0, srLatch := true, srClk := false, srData := a.getLsbD 15,
    rdN := true, wrN := true, dir := .input, dqOut := 0, extQ := a, extA := a, tmr := 0,
    trace := happened (writeEvents a v) s }

/-- After the first `n` turns of `read_block(a)`'s loop, `idx` apart (R67). -/
def afterBytes (a : Half) : Nat → State → State
  | 0, s => s
  | n + 1, s =>
    let t := afterRead (a + BitVec.ofNat 16 n) (afterBytes a n s)
    { t with buf := Memory.write t.buf n t.dreg }

/-- After `read_block(a)` (R67). -/
def afterBlock (a : Half) (s : State) : State := { afterBytes a 512 s with idx := 511 }

/-- `cartridge_type` → `variant` (R51, R87). -/
def variantOf (t : Byte) : Option Variant :=
  if t = 0x00 then some .romOnly
  else if 0x01 ≤ t ∧ t ≤ 0x03 then some .mbc1
  else if 0x05 ≤ t ∧ t ≤ 0x06 then some .mbc2
  else if 0x0F ≤ t ∧ t ≤ 0x13 then some .mbc3
  else if 0x19 ≤ t ∧ t ≤ 0x1E then some .mbc5
  else none

/-- `rom_size` → `rom_banks` (R52, R88). -/
def romBanksFor (c : Byte) : Option (BitVec 10) :=
  if c ≤ 8 then some (BitVec.ofNat 10 (2 <<< c.toNat)) else none

/-- `ram_size` → `ram_banks` (R53, R89). -/
def ramBanksFor (r : Byte) : Option (BitVec 5) :=
  if r = 0 then some 0
  else if r = 1 then some 0
  else if r = 2 then some 1
  else if r = 3 then some 4
  else if r = 4 then some 16
  else if r = 5 then some 8
  else none

/-- After `decode_header()`: the three decodes in order, the first failure ends it (R90, R106). -/
def afterDecode (s : State) : State :=
  match variantOf (cartridgeType s) with
  | none => takeFault .unknownCartridgeType s
  | some k =>
    match romBanksFor (romSize s) with
    | none => takeFault .romSizeOutOfRange { s with variant := k }
    | some n =>
      match ramBanksFor (ramSize s) with
      | none => takeFault .unknownRamSize { s with variant := k, romBanks := n }
      | some m => { s with variant := k, romBanks := n, ramBanks := m }

/-- After `init()` (R86). -/
def afterInit (s : State) : State :=
  let t := afterBlock 0 s
  let u := afterDecode { t with hdr := copyHeader t.buf 64 t.hdr }
  if u.fsm = .fault then u else { u with fsm := .idle }

/-- After the control writes of `select_rom_bank(n)` for a variant that has them (R77, R79, R81, R83). -/
def afterSelectRom (k : Variant) (n : Half) (s : State) : State :=
  match k with
  | .romOnly => takeFault .unsupportedOperation s
  | .mbc1 =>
    let t := afterWrite 0x2000 ((n &&& 0x1F).setWidth 8) s
    if (n >>> 8) &&& 3 ≠ 0 then afterWrite 0x4000 (((n >>> 8) &&& 3).setWidth 8) t else t
  | .mbc2 => afterWrite 0x0100 ((n &&& 0x0F).setWidth 8) s
  | .mbc3 => afterWrite 0x2000 ((n &&& 0x7F).setWidth 8) s
  | .mbc5 =>
    afterWrite 0x2000 ((n &&& 0xFF).setWidth 8) (afterWrite 0x3000 (((n >>> 8) &&& 1).setWidth 8) s)

/-- After `select_ram_bank(n)` (R76, R78, R80, R82, R84). -/
def afterSelectRam (k : Variant) (n : Byte) (s : State) : State :=
  match k with
  | .romOnly | .mbc2 => takeFault .unsupportedOperation s
  | .mbc1 | .mbc3 => afterWrite 0x4000 (n &&& 3) s
  | .mbc5 => afterWrite 0x4000 (n &&& 0x0F) s

/-- After a sequence of `SerWrite`s the transport accepts. -/
def afterSends (bs : List Byte) (s : State) : State :=
  { s with tx := s.tx ++ bs, trace := happened (bs.map .tx) s }

/-- The first `n` bytes of a memory, in ascending address order. -/
def bytesOf (m : Memory) (n : Nat) : List Byte := (List.range n).map (Memory.read m)

/-- After DumpHeader (R95). -/
def afterDumpHdr (s : State) : State := { afterSends (bytesOf s.hdr 64) s with idx := 63 }

/-- After one block of a dump: read whole, then sent whole (R96, R97). -/
def afterDumpBlock (a : Half) (s : State) : State :=
  let t := afterBlock a s
  afterSends (bytesOf t.buf 512) t

/-- After the first `n` blocks of a bank (R96, R97). -/
def afterDumpBlocks (base : Half) : Nat → State → State
  | 0, s => s
  | n + 1, s =>
    afterDumpBlock (base + BitVec.ofNat 16 (n * 512)) { afterDumpBlocks base n s with blk := BitVec.ofNat 5 n }

/-- After one bank of DumpRom (R96). -/
def afterRomBank (n : Nat) (s : State) : State :=
  if n = 0 then afterDumpBlocks 0x0000 32 { s with bank := 0 }
  else afterDumpBlocks 0x4000 32 (afterSelectRom s.variant (BitVec.ofNat 16 n) { s with bank := BitVec.ofNat 16 n })

/-- After the first `n` banks of DumpRom, for a variant that has ROM banks to select (R96). -/
def afterRomBanks : Nat → State → State
  | 0, s => { s with bank := 0 }
  | n + 1, s => afterRomBank n (afterRomBanks n s)

/-- After the first `n` banks of DumpRam, for a variant that has RAM banks to select (R97). -/
def afterRamBanks : Nat → State → State
  | 0, s => s
  | n + 1, s =>
    let t := afterRamBanks n s
    afterDumpBlocks 0xA000 16
      (afterSelectRam t.variant (BitVec.ofNat 8 n) { t with bank := BitVec.ofNat 16 n })

/-- After DumpRam, for a variant that has RAM banks to select (R97). -/
def afterDumpRam (s : State) : State :=
  afterWrite 0x0000 0x00 (afterRamBanks s.ramBanks.toNat (afterWrite 0x0000 0x0A { s with bank := 0 }))

/-- The first `n` bytes of a chunk received into `cbuf` (R98). -/
def afterRecv : Nat → State → State
  | 0, s => s
  | n + 1, s =>
    let t := afterRecv n s
    { t with
      cbuf := Memory.write t.cbuf n (t.rx.headD 0), rx := t.rx.tail, trace := .rx (t.rx.headD 0) :: t.trace }

/-- The first `n` bytes of a chunk written to the cartridge (R98). -/
def afterChunkWrites (c : Nat) : Nat → State → State
  | 0, s => s
  | n + 1, s =>
    let t := afterChunkWrites c n s
    afterWrite (0xA000 + BitVec.ofNat 16 (c * 32 + n)) (Memory.read t.cbuf n) t

/-- After the first `n` chunks of a bank (R98). -/
def afterChunks : Nat → State → State
  | 0, s => s
  | n + 1, s =>
    let t := { afterChunks n s with chunk := BitVec.ofNat 8 n }
    { afterSends [0xAB] (afterChunkWrites n 32 (afterRecv 32 t)) with idx := 31 }

/-- After the first `n` banks of FlashRam, for a variant that has RAM banks to select (R98). -/
def afterFlashBanks : Nat → State → State
  | 0, s => s
  | n + 1, s =>
    let t := afterFlashBanks n s
    afterSends [0xAA]
      (afterChunks 256 (afterSelectRam t.variant (BitVec.ofNat 8 n) { t with bank := BitVec.ofNat 16 n }))

/-- After FlashRam, for a variant that has RAM banks to select (R98). -/
def afterFlashRam (s : State) : State :=
  afterWrite 0x0000 0x00 (afterFlashBanks s.ramBanks.toNat (afterWrite 0x0000 0x0A { s with bank := 0 }))

/-- The operation `i` is the one write transaction `write_byte(a, v)` (R66); the loop register `bitn` may hold anything
afterwards. -/
def MakesWrite (i : Instr) (a : Half) (v : Byte) (s : State) : Prop :=
  ∃ s1 k, exec i s = .next s1 ∧ Reaches s1 { afterWrite a v s with bitn := k }

/-- A variant that defines RAM banks to select (R72). -/
def hasRamBanks (k : Variant) : Bool := k = .mbc1 || k = .mbc3 || k = .mbc5

/-- The value that selects RAM bank `n`, for a variant that has RAM banks (R78, R82, R84). -/
def ramField (k : Variant) (n : Nat) : Byte :=
  match k with
  | .mbc5 => BitVec.ofNat 8 n &&& 0x0F
  | _ => BitVec.ofNat 8 n &&& 3

/-- The events of one chunk `c` of FlashRam whose payload byte `i` is `d i` (R98). -/
def chunkEvents (c : Nat) (d : Nat → Byte) : List Event :=
  ((List.range 32).map fun i => .rx (d i))
    ++ ((List.range 32).flatMap fun i => writeEvents (0xA000 + BitVec.ofNat 16 (c * 32 + i)) (d i))
    ++ [.tx 0xAB]

/-- The events of one bank `n` of FlashRam whose payload byte `i` is `d i` (R98). -/
def flashBankEvents (k : Variant) (n : Nat) (d : Nat → Byte) : List Event :=
  writeEvents 0x4000 (ramField k n)
    ++ ((List.range 256).flatMap fun c => chunkEvents c fun i => d (c * 32 + i))
    ++ [.tx 0xAA]

/-- The events of FlashRam with `n` banks whose payload byte `i` is `d i` (R98). -/
def flashEvents (k : Variant) (n : Nat) (d : Nat → Byte) : List Event :=
  writeEvents 0x0000 0x0A
    ++ ((List.range n).flatMap fun b => flashBankEvents k b fun i => d (b * 8192 + i))
    ++ writeEvents 0x0000 0x00

/-! ## The bus discipline (R70, R71, R117, R118) -/

/-- The levels the bus rules speak of. -/
structure Bus where
  dir : Dir
  rdN : Bool
  wrN : Bool
  latch : Bool
  clk : Bool
  dq : BitVec 8
  deriving DecidableEq, Repr

/-- A state's bus levels. -/
def busOf (s : State) : Bus :=
  { dir := s.dir, rdN := s.rdN, wrN := s.wrN, latch := s.srLatch, clk := s.srClk, dq := s.dqOut }

/-- The idle bus (R70). -/
def idleBus : Bus := { dir := .input, rdN := true, wrN := true, latch := true, clk := false, dq := 0 }

/-- The levels an operation leaves, where the discipline allows it to start (R117, R118); every operation but the parts of a
bus access starts and ends with the bus idle (R70). -/
def passOp (i : Instr) (b : Bus) : Option Bus :=
  match i with
  | .setAddress _ => if b.latch && !b.clk then some b else none
  | .shiftBit _ => if !b.latch && !b.clk then some b else none
  | .toOutput => if b = idleBus then some { b with dir := .output } else none
  | .toInput => if b = { idleBus with dir := .output } then some idleBus else none
  | .dbWrite v => if b.dir = .output && b.rdN && b.wrN then some { b with dq := pinMap v } else none
  | .dbRead => if b.dir = .input && !b.rdN && b.wrN && b.latch && !b.clk then some b else none
  | .delay _ => some b
  | _ => if b = idleBus then some idleBus else none

/-- The levels a pending line leaves, where the discipline allows it. -/
def passLine (t : Task) (b : Bus) : Option Bus :=
  match t with
  | .call i => passOp i b
  | .set .srData _ => if !b.latch && !b.clk then some b else none
  | .set .srClk c => if !b.latch then some { b with clk := c } else none
  | .set .srLatch l => if !b.clk then some { b with latch := l } else none
  | .set .rdN l => if l || (b.dir = .input && b.wrN) then some { b with rdN := l } else none
  | .set .wrN l => if l || (b.dir = .output && b.rdN) then some { b with wrN := l } else none
  | .nextBit => if !b.latch && !b.clk then some b else none
  | .delayEnd _ => some b
  | _ => if b = idleBus then some idleBus else none

/-- The levels a position leaves when all its lines have run. -/
def passLines : List Task → Bus → Option Bus
  | [], b => some b
  | t :: ts, b => (passLine t b).bind (passLines ts)

/-- The bus discipline: from here, the pending lines keep the rules and leave the bus idle; there is no contention; a
stopped block has an idle bus (R70, R71, R117). -/
def busDiscipline (s : State) : Bool :=
  passLines s.work (busOf s) = some idleBus && noContention s && (s.fsm ≠ .fault || busOf s = idleBus)

/-! ## The session is read once (R91) -/

/-- The operation writes the session's registers. -/
def opWritesSession (i : Instr) : Bool :=
  match encode i with
  | some (.ctype8, _) | some (.romsz8, _) | some (.ramsz8, _) => true
  | _ => i = .init || i = .decodeHeader || i = .reset

/-- The line writes the session's registers. -/
def writesSession : Task → Bool
  | .call i => opWritesSession i
  | .copyHdr | .decodeMbc | .decodeRomSize | .decodeRamSize => true
  | _ => false

/-- The line ends `INIT`. -/
def leavesInit : Task → Bool
  | .toIdle | .call .init | .call .idle | .call .dispatch => true
  | .call i => match encode i with
    | some (.sync8, _) => true
    | _ => false
  | _ => false

/-- After the line that ends `INIT`, no pending line writes the session's registers. -/
def initOrder : List Task → Bool
  | [] => true
  | t :: ts => if leavesInit t then ts.all (fun u => !writesSession u) else initOrder ts

/-- No line that writes the session's registers is pending outside `INIT`. -/
def sessionSealed (s : State) : Bool :=
  if s.fsm = .init then initOrder s.work else s.work.all (fun u => !writesSession u)

/-! ## The fault registers and the memories -/

/-- `fault` is set exactly in `FAULT`, and `fault_code` is 0 before and one of the four codes after (R18, R102, R103). -/
def faultRegistersAgree (s : State) : Bool :=
  (s.fault == (s.fsm = .fault)) && (if s.fault then 1 ≤ s.faultCode && s.faultCode ≤ 4 else s.faultCode = 0)

/-- The block's memories are in canonical form. -/
def memoriesCanonical (s : State) : Bool := Memory.wf s.buf && Memory.wf s.cbuf && Memory.wf s.hdr

end Sys2Proof.Machine
end

