-- ==== Sys2Proof/Certificates/Slice0/Obligations.lean ====
section
/-! DEFINITION. The statements for the provers. "Runs to" is a number of steps of the whole machine (`Reaches`). A statement
that names a loop register's last value, a queue of the model or the shape of the position rests on the log entries its
docstring names. -/

open Sys2Proof Sys2Proof.Machine

/-! ## Reset, faults and the step -/

/-- R25: the values the spec gives for reset; the idle timer has no ticks left to count. -/
def Obligations.ResetState : Prop :=
  State.reset.fsm = .init ∧ State.reset.dir = .input ∧ State.reset.dqOut = 0 ∧ State.reset.rdN = true
    ∧ State.reset.wrN = true ∧ State.reset.srLatch = true ∧ State.reset.srClk = false ∧ State.reset.srData = false
    ∧ State.reset.fault = false ∧ State.reset.faultCode = 0 ∧ State.reset.tmr = 0 ∧ busIdle State.reset = true

/-- R6: the parameters after reset meet the constraints the spec puts on them, and no step changes them (log 10). -/
def Obligations.ParametersConstant : Prop :=
  State.reset.cfg.wf = true ∧ ∀ s t, step s = .next t → t.cfg = s.cfg

/-- R114: asserting `RST` with no operation in its middle puts the block's registers at their reset values and leaves
everything outside the block as it was; in the middle of an operation it is refused. When no operation is in its middle is
the model's reading, and so are the values of the registers the spec leaves unspecified (log 3, log 8). -/
def Obligations.ResetInstruction : Prop :=
  (∀ s, resettable s = true → ∃ t, exec .reset s = .next t ∧ busIdle t = true ∧ t.srData = false ∧ t.fsm = .init
      ∧ t.work = [] ∧ t.fault = false ∧ t.faultCode = 0 ∧ t.tmr = 0 ∧ t.rst = false
      ∧ t.extQ = s.extQ ∧ t.extA = s.extA ∧ t.rx = s.rx ∧ t.tx = s.tx ∧ t.txReady = s.txReady
      ∧ t.answers = s.answers ∧ t.trace = s.trace ∧ t.cfg = s.cfg)
    ∧ ∀ s, resettable s = false → exec .reset s = .refused .midRunReset

/-- What a step runs: the reset while `RST` is asserted; nothing in `FAULT`; else the next pending line, which for a pending
operation is `exec` of it; and with no line pending what the control state says (R17, R93, R103, R114). A word that decodes
to an operation, put where the next operation stands, is what the next step runs, and the step adds nothing to it. The
position as a list of lines and the words of the table's numbering are the model's form (log 1, log 2, log 11, log 12). -/
def Obligations.StepRunsNextLine : Prop :=
  (∀ s, s.rst = true → step s = exec .reset s)
    ∧ (∀ s, s.rst = false → s.fsm = .fault → step s = .fault .stopped)
    ∧ (∀ s i ls, running s = true → s.work = .call i :: ls → step s = exec i { s with work := ls })
    ∧ (∀ s, running s = true → s.work = [] → s.fsm = .init → step s = exec .init s)
    ∧ (∀ s, running s = true → s.work = [] → s.fsm = .idle → step s = exec .idle s)
    ∧ (∀ s, running s = true → s.work = [] → s.fsm = .dispatch → step s = exec .dispatch s)
    ∧ (∀ s, running s = true → s.work = [] → s.fsm = .exec → step s = .next { s with fsm := .idle })
    ∧ (∀ s n w i, running s = true → decodeTableWord n w = some i → step (s.withFetchWord n w) = exec i s)

/-- R103: `raise Fault(code)` sets the three fault registers in one event, drops the running operation and its callers, and
changes nothing else. -/
def Obligations.FaultEntry : Prop :=
  ∀ s c, ∃ n, exec (.raiseFault c) s = .next (takeFault c s)
    ∧ (c = .unsupportedOperation → n = 1) ∧ (c = .unknownCartridgeType → n = 2)
    ∧ (c = .unknownRamSize → n = 3) ∧ (c = .romSizeOutOfRange → n = 4)
    ∧ takeFault c s =
         { s with fault := true, faultCode := n, fsm := .fault, work := [], trace := .fault n :: s.trace }

/-- R104: only reset ends `FAULT`. -/
def Obligations.OnlyResetEndsFault : Prop :=
  ∀ s t, s.fsm = .fault → step s = .next t → s.rst = true ∧ t.fsm = .init ∧ t.fault = false ∧ t.faultCode = 0

/-- R100: the machine waits in `SerRead` only with an empty `rx`, in `SerWrite` only while the transport does not accept, and
stops for ever only in `FAULT`; and the wait is certain where the next line is a serial operation (log 7: a wait is a fault
of the model that leaves the state as it is). -/
def Obligations.SerialStall : Prop :=
  (∀ s, step s = .fault .serialReadWait → s.rx = [])
    ∧ (∀ s, step s = .fault .serialWriteWait → s.txReady = false)
    ∧ (∀ s, step s = .fault .stopped → s.fsm = .fault)
    ∧ (∀ s, s.rx = [] → exec .idle s = .fault .serialReadWait ∧ exec .dispatch s = .fault .serialReadWait)
    ∧ (∀ s, s.txReady = false → exec .ackChunk s = .fault .serialWriteWait ∧ exec .endBank s = .fault .serialWriteWait)
    ∧ (∀ s, running s = true → waiting s = true →
        step s = .fault .serialReadWait ∨ step s = .fault .serialWriteWait)

/-! ## Encoding -/

/-- Words written out from the encoding tables (R40, R41, R44, R45, R46, R48, R51, R52, R53), at least one of each of the
twelve formats that have words, decode to the operations they stand for. -/
def Obligations.DecodedWords : Prop :=
  decode .sync8 0b11001010 = .ok .sync ∧ decode .sync8 0b11001011 = .ok .idleDiscardCB
    ∧ decode .cmd8 0b00000100 = .ok .flashRam ∧ decode .cmd8 0b11001010 = .ok (.nop80 0b1001010)
    ∧ decode .tx8 0b10101011 = .ok .ackChunk ∧ decode .tx8 0b10101010 = .ok .endBank
    ∧ decode .ramGate24 0b000000000000000000001010 = .ok .enableRam
    ∧ decode (.romBank24 .mbc1) 0b001000000000000000000001 = .ok (.mbc1RomW1 1)
    ∧ decode (.romBank24 .mbc1) 0b010000000000000000000011 = .ok (.mbc1RomW2 3)
    ∧ decode (.romBank24 .mbc5) 0b001100000000000000000001 = .ok (.mbc5RomW1 1)
    ∧ decode .shift16 0b0100000000000000 = .ok (.setAddress 0x4000)
    ∧ decode .shift1 0b0 = .ok (.shiftBit false) ∧ decode .shift1 0b1 = .ok (.shiftBit true)
    ∧ decode .dbus8 0b00001010 = .ok (.dbWrite 0x0A)
    ∧ decode .busrd16 0b0000000101000111 = .ok (.readByte 0x0147)
    ∧ decode .buswr24 0b001000000000000000000001 = .ok (.writeByte 0x2000 1)
    ∧ decode .ctype8 0b00011011 = .ok .ctype1BMbc5 ∧ decode .romsz8 0b00001001 = .ok .romszInvalid09
    ∧ decode .ramsz8 0b00000101 = .ok .ramsz05

/-- Decoding the word of a well-formed operation gives it back, every operand at every value. -/
def Obligations.DecodeEncode : Prop :=
  ∀ i f w, i.wf = true → encode i = some (f, w) → decode f w = .ok i

/-- A word that decodes, decodes to a well-formed operation whose word it is: no two words of a format mean the same. -/
def Obligations.EncodeDecode : Prop :=
  ∀ f w i, decode f w = .ok i → i.wf = true ∧ encode i = some (f, w)

/-- R51: the map from `cartridge_type` to `variant`, by ranges, every other value Fault(2); nothing else changes. -/
def Obligations.CartridgeTypeRows : Prop :=
  ∀ (t : Byte) s, exec (decodeCtype8 t) s =
    if t = 0x00 then .next { s with variant := .romOnly }
    else if 0x01 ≤ t ∧ t ≤ 0x03 then .next { s with variant := .mbc1 }
    else if 0x05 ≤ t ∧ t ≤ 0x06 then .next { s with variant := .mbc2 }
    else if 0x0F ≤ t ∧ t ≤ 0x13 then .next { s with variant := .mbc3 }
    else if 0x19 ≤ t ∧ t ≤ 0x1E then .next { s with variant := .mbc5 }
    else .next (takeFault .unknownCartridgeType s)

/-- R52: the map from `rom_size` to `rom_banks`: `2 << rom_size` for 0 to 8, every other value Fault(4). -/
def Obligations.RomSizeRows : Prop :=
  ∀ (c : Byte) s, if c ≤ 8
    then ∃ n, exec (decodeRomsz8 c) s = .next { s with romBanks := n } ∧ n.toNat = 2 <<< c.toNat
    else exec (decodeRomsz8 c) s = .next (takeFault .romSizeOutOfRange s)

/-- R53: the map from `ram_size` to `ram_banks`, every value from 6 on Fault(3). -/
def Obligations.RamSizeRows : Prop :=
  ∀ (r : Byte) s, exec (decodeRamsz8 r) s =
    if r = 0 ∨ r = 1 then .next { s with ramBanks := 0 }
    else if r = 2 then .next { s with ramBanks := 1 }
    else if r = 3 then .next { s with ramBanks := 4 }
    else if r = 4 then .next { s with ramBanks := 16 }
    else if r = 5 then .next { s with ramBanks := 8 }
    else .next (takeFault .unknownRamSize s)

/-- R94: every command byte other than 0x00, 0x01, 0x02 and 0x04 is NoOp: no event, no change. -/
def Obligations.NoOpRows : Prop :=
  ∀ (b : Byte) s, b ≠ 0x00 → b ≠ 0x01 → b ≠ 0x02 → b ≠ 0x04 → exec (decodeCmd8 b) s = .next s

/-! ## Rows of one event or none, each by name -/

/-- The twenty-eight rows of `CTYPE8`: the seventeen accepted ones set `variant` and nothing else, the eleven rejected ones
take Fault(2), whatever the bits outside the mask (R51, R87). -/
def Obligations.CartridgeTypeEachRow : Prop :=
  ∀ s, exec .ctype00RomOnly s = .next { s with variant := .romOnly }
    ∧ (exec .ctype01Mbc1 s = .next { s with variant := .mbc1 } ∧ exec .ctype02Mbc1 s = .next { s with variant := .mbc1 }
      ∧ exec .ctype03Mbc1 s = .next { s with variant := .mbc1 })
    ∧ (exec .ctype05Mbc2 s = .next { s with variant := .mbc2 } ∧ exec .ctype06Mbc2 s = .next { s with variant := .mbc2 })
    ∧ (exec .ctype0FMbc3 s = .next { s with variant := .mbc3 } ∧ exec .ctype10Mbc3 s = .next { s with variant := .mbc3 }
      ∧ exec .ctype11Mbc3 s = .next { s with variant := .mbc3 } ∧ exec .ctype12Mbc3 s = .next { s with variant := .mbc3 }
      ∧ exec .ctype13Mbc3 s = .next { s with variant := .mbc3 })
    ∧ (exec .ctype19Mbc5 s = .next { s with variant := .mbc5 } ∧ exec .ctype1AMbc5 s = .next { s with variant := .mbc5 }
      ∧ exec .ctype1BMbc5 s = .next { s with variant := .mbc5 } ∧ exec .ctype1CMbc5 s = .next { s with variant := .mbc5 }
      ∧ exec .ctype1DMbc5 s = .next { s with variant := .mbc5 } ∧ exec .ctype1EMbc5 s = .next { s with variant := .mbc5 })
    ∧ exec .ctypeInvalid04 s = .next (takeFault .unknownCartridgeType s)
    ∧ exec .ctypeInvalid07 s = .next (takeFault .unknownCartridgeType s)
    ∧ (∀ l, exec (.ctypeInvalid08 l) s = .next (takeFault .unknownCartridgeType s))
    ∧ (∀ l, exec (.ctypeInvalid0C l) s = .next (takeFault .unknownCartridgeType s))
    ∧ exec .ctypeInvalid0E s = .next (takeFault .unknownCartridgeType s)
    ∧ (∀ l, exec (.ctypeInvalid14 l) s = .next (takeFault .unknownCartridgeType s))
    ∧ exec .ctypeInvalid18 s = .next (takeFault .unknownCartridgeType s)
    ∧ exec .ctypeInvalid1F s = .next (takeFault .unknownCartridgeType s)
    ∧ (∀ l, exec (.ctypeInvalid20 l) s = .next (takeFault .unknownCartridgeType s))
    ∧ (∀ l, exec (.ctypeInvalid40 l) s = .next (takeFault .unknownCartridgeType s))
    ∧ (∀ l, exec (.ctypeInvalid80 l) s = .next (takeFault .unknownCartridgeType s))

/-- The sixteen rows of `ROMSZ8` and the twelve of `RAMSZ8`: the accepted codes set `rom_banks` or `ram_banks` and nothing
else, the others take Fault(4) or Fault(3), whatever the bits outside the mask (R52, R53, R88, R89). -/
def Obligations.SizeCodeEachRow : Prop :=
  ∀ s, (exec .romsz00 s = .next { s with romBanks := 2 } ∧ exec .romsz01 s = .next { s with romBanks := 4 }
      ∧ exec .romsz02 s = .next { s with romBanks := 8 } ∧ exec .romsz03 s = .next { s with romBanks := 16 }
      ∧ exec .romsz04 s = .next { s with romBanks := 32 } ∧ exec .romsz05 s = .next { s with romBanks := 64 }
      ∧ exec .romsz06 s = .next { s with romBanks := 128 } ∧ exec .romsz07 s = .next { s with romBanks := 256 }
      ∧ exec .romsz08 s = .next { s with romBanks := 512 })
    ∧ exec .romszInvalid09 s = .next (takeFault .romSizeOutOfRange s)
    ∧ (∀ l, exec (.romszInvalid0A l) s = .next (takeFault .romSizeOutOfRange s))
    ∧ (∀ l, exec (.romszInvalid0C l) s = .next (takeFault .romSizeOutOfRange s))
    ∧ (∀ l, exec (.romszInvalid10 l) s = .next (takeFault .romSizeOutOfRange s))
    ∧ (∀ l, exec (.romszInvalid20 l) s = .next (takeFault .romSizeOutOfRange s))
    ∧ (∀ l, exec (.romszInvalid40 l) s = .next (takeFault .romSizeOutOfRange s))
    ∧ (∀ l, exec (.romszInvalid80 l) s = .next (takeFault .romSizeOutOfRange s))
    ∧ (exec .ramsz00 s = .next { s with ramBanks := 0 } ∧ exec .ramsz01 s = .next { s with ramBanks := 0 }
      ∧ exec .ramsz02 s = .next { s with ramBanks := 1 } ∧ exec .ramsz03 s = .next { s with ramBanks := 4 }
      ∧ exec .ramsz04 s = .next { s with ramBanks := 16 } ∧ exec .ramsz05 s = .next { s with ramBanks := 8 })
    ∧ (∀ l, exec (.ramszInvalid06 l) s = .next (takeFault .unknownRamSize s))
    ∧ (∀ l, exec (.ramszInvalid08 l) s = .next (takeFault .unknownRamSize s))
    ∧ (∀ l, exec (.ramszInvalid10 l) s = .next (takeFault .unknownRamSize s))
    ∧ (∀ l, exec (.ramszInvalid20 l) s = .next (takeFault .unknownRamSize s))
    ∧ (∀ l, exec (.ramszInvalid40 l) s = .next (takeFault .unknownRamSize s))
    ∧ (∀ l, exec (.ramszInvalid80 l) s = .next (takeFault .unknownRamSize s))

/-- The nine rows of `SYNC8` and the eight NoOp rows of `CMD8`, whatever the bits outside the mask: the sync byte leads to
`DISPATCH`, every other byte scanned to `IDLE`, and a NoOp changes nothing (R92, R94). -/
def Obligations.FramerEachRow : Prop :=
  ∀ s, exec .sync s = .next { s with fsm := .dispatch }
    ∧ (∀ l, exec (.idleDiscard00 l) s = .next { s with fsm := .idle })
    ∧ (∀ l, exec (.idleDiscard80 l) s = .next { s with fsm := .idle })
    ∧ (∀ l, exec (.idleDiscardC0 l) s = .next { s with fsm := .idle })
    ∧ (∀ l, exec (.idleDiscardC8 l) s = .next { s with fsm := .idle })
    ∧ exec .idleDiscardCB s = .next { s with fsm := .idle }
    ∧ (∀ l, exec (.idleDiscardCC l) s = .next { s with fsm := .idle })
    ∧ (∀ l, exec (.idleDiscardD0 l) s = .next { s with fsm := .idle })
    ∧ (∀ l, exec (.idleDiscardE0 l) s = .next { s with fsm := .idle })
    ∧ exec .nop03 s = .next s ∧ exec .nop05 s = .next s ∧ (∀ l, exec (.nop06 l) s = .next s)
    ∧ (∀ l, exec (.nop08 l) s = .next s) ∧ (∀ l, exec (.nop10 l) s = .next s) ∧ (∀ l, exec (.nop20 l) s = .next s)
    ∧ (∀ l, exec (.nop40 l) s = .next s) ∧ (∀ l, exec (.nop80 l) s = .next s)

/-- The two outbound control bytes, sent when the transport accepts (R44; that the transport's readiness is one bit is
log 7). -/
def Obligations.MarkersSent : Prop :=
  ∀ s, s.txReady = true →
    exec .ackChunk s = .next { s with tx := s.tx ++ [0xAB], trace := .tx 0xAB :: s.trace }
    ∧ exec .endBank s = .next { s with tx := s.tx ++ [0xAA], trace := .tx 0xAA :: s.trace }

/-- R75, R76, R80: the three unsupported requests take Fault(1), whatever the bank and the state, with no bus event. -/
def Obligations.UnsupportedRequests : Prop :=
  ∀ s, (∀ n, exec (.romOnlyRom n) s = .next (takeFault .unsupportedOperation s))
    ∧ (∀ n, exec (.romOnlyRam n) s = .next (takeFault .unsupportedOperation s))
    ∧ (∀ n, exec (.mbc2Ram n) s = .next (takeFault .unsupportedOperation s))

/-! ## The data bus -/

/-- R59, R60: the direction of all eight lines switches in one event and nothing else changes. -/
def Obligations.DirectionSwitch : Prop :=
  (∀ s, s.dir = .input → exec .toOutput s = .next { s with dir := .output, trace := .setDir .output :: s.trace })
    ∧ ∀ s, s.dir = .output → exec .toInput s = .next { s with dir := .input, trace := .setDir .input :: s.trace }

/-- R62: `db_write(v)` drives pin `p` with value bit `7 - p`, all lines in one event, and nothing else changes but `dreg`. -/
def Obligations.DataBusWrite : Prop :=
  ∀ s v, s.dir = .output → ∃ q, exec (.dbWrite v) s =
      .next { s with dreg := v, dqOut := q, trace := .setDQ q :: s.trace }
    ∧ ∀ p : Fin 8, q.getLsbD p = v.getLsbD (7 - p)

/-- R61: `db_read()` samples the eight lines in one event and packs the level of pin `p` into value bit `7 - p`; nothing else
changes. The levels are the environment's: the next byte it has answered, where it has queued one, in the wiring of R46
(log 6). -/
def Obligations.DataBusRead : Prop :=
  ∀ s, s.dir = .input → ∃ v l, exec .dbRead s =
      .next { s with dreg := v, answers := s.answers.tail, trace := .sample l :: s.trace }
    ∧ (∀ p : Fin 8, v.getLsbD (7 - p) = l.getLsbD p)
    ∧ ∀ b rest, s.answers = b :: rest → v = b

/-- R63: a data-bus call in the wrong direction is refused, never given a value. -/
def Obligations.WrongDirectionRefused : Prop :=
  (∀ s, s.dir = .output → exec .dbRead s = .refused .wrongDirection ∧ exec .toOutput s = .refused .wrongDirection)
    ∧ ∀ s v, s.dir = .input →
      exec (.dbWrite v) s = .refused .wrongDirection ∧ exec .toInput s = .refused .wrongDirection

/-- R64: on a looped-back bus, the byte written is the byte read: `db_write(v)`, the switch to input, and a `db_read()` whose
levels are those last driven (log 6: the environment's answer is given as the byte those levels are in the wiring of R46). -/
def Obligations.LoopBack : Prop :=
  ∀ s v rest, s.dir = .output → ∃ t1 t2 t3, exec (.dbWrite v) s = .next t1 ∧ exec .toInput t1 = .next t2
    ∧ exec .dbRead { t2 with answers := pinMap t1.dqOut :: rest } = .next t3
    ∧ t3.trace = .sample t1.dqOut :: t2.trace ∧ t3.dreg = v

/-! ## The address shifter and the external register -/

/-- R56: `shift_bit(b)` is the data level, the clock up, the clock down; the external stage takes the bit at the clock's
rising edge, if there is one (R57). -/
def Obligations.ShiftBit : Prop :=
  ∀ s b, running s = true → ∃ s1, exec (.shiftBit b) s = .next s1 ∧ Reaches s1
    { s with
      srData := b, srClk := false
      extQ := if s.srClk then s.extQ else BitVec.cons b (s.extQ.extractLsb' 1 15)
      trace := .set .srClk false :: .set .srClk true :: .set .srData b :: s.trace }

/-- R55: `set_address(a)`: the latch low, the sixteen bits in order of their number, the latch high; the external latch then
holds `a`, and `bitn` may hold anything. The clock rests low before it (R58). -/
def Obligations.SetAddress : Prop :=
  ∀ s a, running s = true → s.srClk = false → ∃ s1 k, exec (.setAddress a) s = .next s1 ∧ Reaches s1
    { s with
      areg := a, bitn := k, srLatch := true, srClk := false, srData := a.getLsbD 15, extQ := a, extA := a
      trace := happened (addressEvents a) s }

/-- R57: on every step the latch `A` takes the shift stage at a rising edge of `SR_LATCH`, the stage `Q` shifts at a rising
edge of `SR_CLK`, and both hold at all other times. -/
def Obligations.ExternalRegister : Prop :=
  ∀ s t, step s = .next t →
    t.extA = (if s.srLatch = false ∧ t.srLatch = true then s.extQ else s.extA)
    ∧ t.extQ = if s.srClk = false ∧ t.srClk = true then BitVec.cons s.srData (s.extQ.extractLsb' 1 15) else s.extQ

/-! ## The cartridge bus -/

/-- R65: `read_byte(a)`: the events of the rule in their order, and the byte sampled as the result, which is the next byte the
environment has answered where it has queued one (log 6); `bitn` may hold anything, and nothing else changes but the
shifter's registers, the strobes, `dreg`, and the timer where a settle delay is made. -/
def Obligations.ReadByte : Prop :=
  ∀ s a, running s = true → s.srClk = false → s.dir = .input →
    ∃ s1 k v, exec (.readByte a) s = .next s1 ∧ (∀ b rest, s.answers = b :: rest → v = b) ∧ Reaches s1
      { s with
        areg := a, bitn := k, dreg := v, srLatch := true, srClk := false, srData := a.getLsbD 15, rdN := true, wrN := true
        extQ := a, extA := a, answers := s.answers.tail, tmr := if 0 < s.cfg.tRdSettle then 0 else s.tmr
        trace := happened (readEvents a v s.cfg) s }

/-- R66: `write_byte(a, v)`: the events of the rule in their order, the lines cleared and released, and nothing else changed
but the shifter's registers, `dreg` and the timer, which is idle again. -/
def Obligations.WriteByte : Prop :=
  ∀ s a v, running s = true → s.srClk = false → s.dir = .input →
    ∃ s1 k, exec (.writeByte a v) s = .next s1 ∧ Reaches s1
      { s with
        areg := a, bitn := k, dreg := 0, srLatch := true, srClk := false, srData := a.getLsbD 15, rdN := true, wrN := true
        dir := .input, dqOut := 0, extQ := a, extA := a, tmr := 0, trace := happened (writeEvents a v) s }

/-- The event counts the rules give: 50 for an address (R55), 54 for a read with the default parameter and 55 with a settle
delay (R65), 59 for a write, which takes at least 4 ms (R66, R126). -/
def Obligations.EventCounts : Prop :=
  (∀ a, (addressEvents a).length = 50)
    ∧ (∀ a v cfg, (readEvents a v cfg).length = if 0 < cfg.tRdSettle then 55 else 54)
    ∧ ∀ a v, (writeEvents a v).length = 59 ∧ delayTotal (writeEvents a v) = 4000000

/-- `read_block(a)`: 512 whole reads at ascending addresses modulo 2^16 into `buf` (R67). The form of the oracle is log 6, the
last value of `idx` log 2, that of `areg` log 16. -/
def Obligations.ReadBlock : Prop :=
  ∀ s a, running s = true → s.srClk = false → s.dir = .input →
    ∃ s1, exec (.readBlock a) s = .next s1 ∧ Reaches s1 (afterBlock a s)

/-- `read_block(a)` leaves byte `i` it reads in `buf[i]` and nothing else in any memory (R67), for every 512 bytes the
environment answers (log 6). -/
def Obligations.BlockHoldsAnswers : Prop :=
  ∀ s a bs rest, running s = true → s.srClk = false → s.dir = .input → memoriesCanonical s = true →
    bs.length = 512 → s.answers = bs ++ rest →
    ∃ s1 t, exec (.readBlock a) s = .next s1 ∧ Reaches s1 t ∧ bytesOf t.buf 512 = bs ∧ t.answers = rest
      ∧ (∀ i, 512 ≤ i → Memory.read t.buf i = Memory.read s.buf i) ∧ t.cbuf = s.cbuf ∧ t.hdr = s.hdr
      ∧ t.rx = s.rx ∧ t.tx = s.tx ∧ t.work = s.work

/-- `Delay(T)`: the timer starts with the least number of ticks that take at least the time, and ends idle; no pin, no byte,
no register but the timer changes (R68; the units are log 9). -/
def Obligations.DelayRuns : Prop :=
  ∀ s t, running s = true → ∃ s1, exec (.delay t) s = .next s1 ∧ t * s.cfg.fClk ≤ s1.tmr * 1000000000
    ∧ s1.tmr * 1000000000 < t * s.cfg.fClk + 1000000000
    ∧ Reaches s1 { s with tmr := 0, trace := .delay t :: s.trace }

/-! ## The bank-switch translator -/

/-- R73, R74: `enable_ram()` is `write_byte(0x0000, 0x0A)` and `disable_ram()` is `write_byte(0x0000, 0x00)`, for every
variant. -/
def Obligations.RamGate : Prop :=
  ∀ s, running s = true → s.srClk = false → s.dir = .input →
    MakesWrite .enableRam 0x0000 0x0A s ∧ MakesWrite .disableRam 0x0000 0x00 s

/-- The control writes of R48, one by one: the address and the value each makes, for every value of its field; MBC1's second
ROM write with a zero field is no write (R77). -/
def Obligations.ControlWrites : Prop :=
  ∀ s, running s = true → s.srClk = false → s.dir = .input →
    (∀ b, MakesWrite (.mbc1RomW1 b) 0x2000 (b.setWidth 8) s)
    ∧ (∀ h, h ≠ 0 → MakesWrite (.mbc1RomW2 h) 0x4000 (h.setWidth 8) s) ∧ exec (.mbc1RomW2 0) s = .next s
    ∧ (∀ r, MakesWrite (.mbc1Ram r) 0x4000 (r.setWidth 8) s)
    ∧ (∀ b, MakesWrite (.mbc2Rom b) 0x0100 (b.setWidth 8) s)
    ∧ (∀ b, MakesWrite (.mbc3Rom b) 0x2000 (b.setWidth 8) s)
    ∧ (∀ r, MakesWrite (.mbc3Ram r) 0x4000 (r.setWidth 8) s)
    ∧ (∀ h, MakesWrite (.mbc5RomW1 h) 0x3000 (h.setWidth 8) s)
    ∧ (∀ b, MakesWrite (.mbc5RomW2 b) 0x2000 b s)
    ∧ ∀ r, MakesWrite (.mbc5Ram r) 0x4000 (r.setWidth 8) s

/-- R75, R77, R79, R81, R83: `select_rom_bank(n)` for each variant: the control writes of the rule, in their order, or
Fault(1); `bitn` may hold anything. -/
def Obligations.SelectRomBank : Prop :=
  ∀ s n, running s = true → s.srClk = false → s.dir = .input →
    ∃ s1 k, exec (.selectRomBank n) s = .next s1 ∧ Reaches s1 { afterSelectRom s.variant n s with bitn := k }

/-- R76, R78, R80, R82, R84: `select_ram_bank(n)` for each variant. -/
def Obligations.SelectRamBank : Prop :=
  ∀ s n, running s = true → s.srClk = false → s.dir = .input →
    ∃ s1 k, exec (.selectRamBank n) s = .next s1 ∧ Reaches s1 { afterSelectRam s.variant n s with bitn := k }

/-! ## The header -/

/-- R90: `decode_header()` runs the three decodes in the order type, ROM size, RAM size; the first that fails ends it with its
fault and the later ones are not evaluated. -/
def Obligations.DecodeHeader : Prop :=
  ∀ s, running s = true → ∃ s1, exec .decodeHeader s = .next s1 ∧ Reaches s1 (afterDecode s)

/-- `init()` (R86): one block from 0x0000, the record copied out of it, the three decodes, then `IDLE`, or `FAULT` where a
decode fails. Loop registers, oracle and `areg` as log 2, log 6 and log 16. -/
def Obligations.Init : Prop :=
  ∀ s, running s = true → s.srClk = false → s.dir = .input →
    ∃ s1, exec .init s = .next s1 ∧ Reaches s1 (afterInit s)

/-- For every 512 bytes the environment answers (log 6): after `init()` the header record is bytes 0x100 to 0x13F of them, no
serial byte was read or written, and the block is in `IDLE` or in `FAULT` with code 2, 4 or 3 (R15, R86, R115). -/
def Obligations.BootStoresHeader : Prop :=
  ∀ s bs rest, running s = true → s.srClk = false → s.dir = .input → s.fault = false → memoriesCanonical s = true →
    bs.length = 512 → s.answers = bs ++ rest →
    ∃ s1 t, exec .init s = .next s1 ∧ Reaches s1 t ∧ bytesOf t.hdr 64 = (bs.drop 256).take 64 ∧ t.answers = rest
      ∧ t.rx = s.rx ∧ t.tx = s.tx
      ∧ (t.fsm = .idle ∧ t.fault = false
        ∨ t.fsm = .fault ∧ t.fault = true ∧ (t.faultCode = 2 ∨ t.faultCode = 4 ∨ t.faultCode = 3))

/-! ## The framer and the commands -/

/-- R92: `idle()` takes one byte; 0xCA leads to `DISPATCH`, every other byte to `IDLE`, and nothing else changes. -/
def Obligations.IdleScan : Prop :=
  ∀ s b r, running s = true → s.rx = b :: r →
    ∃ s1, exec .idle s = .next s1 ∧ Reaches s1
      { s with rx := r, fsm := if b = 0xCA then .dispatch else .idle, trace := .rx b :: s.trace }

/-- `dispatch()` takes one byte into `cmd`, enters `EXEC`, and the command's row is what runs next (R93); the row as a pending
line is log 2. -/
def Obligations.DispatchCommand : Prop :=
  ∀ s b r, s.rx = b :: r → ∃ i, exec .dispatch s = .next
      { s with rx := r, cmd := b, fsm := .exec, work := .call i :: s.work, trace := .rx b :: s.trace }
    ∧ (b = 0x00 → i = .dumpHdr) ∧ (b = 0x01 → i = .dumpRom) ∧ (b = 0x02 → i = .dumpRam) ∧ (b = 0x04 → i = .flashRam)
    ∧ (b ≠ 0x00 → b ≠ 0x01 → b ≠ 0x02 → b ≠ 0x04 → ∀ t, exec i t = .next t)

/-- A whole frame with an unrecognized command byte, 0xCA included: both bytes are consumed, nothing is sent, no pin moves, and
the block is back in `IDLE` (R40, R42, R92, R93, R94). -/
def Obligations.NoOpFrame : Prop :=
  ∀ s b r, running s = true → s.fsm = .idle → s.work = [] → s.rx = 0xCA :: b :: r →
    b ≠ 0x00 → b ≠ 0x01 → b ≠ 0x02 → b ≠ 0x04 →
    Reaches s { s with rx := r, cmd := b, trace := .rx b :: .rx 0xCA :: s.trace }

/-- R95: DumpHeader sends the 64 stored header bytes, `hdr[0]` first, and touches nothing else; `idx` may hold anything. -/
def Obligations.DumpHeader : Prop :=
  ∀ s, running s = true → s.txReady = true → ∃ s1 k, exec .dumpHdr s = .next s1 ∧ Reaches s1
    { s with
      idx := k, tx := s.tx ++ bytesOf s.hdr 64
      trace := ((bytesOf s.hdr 64).map Event.tx).reverse ++ s.trace }

/-- DumpRom for a variant with ROM banks to select (R96); loop registers, oracle and `areg` as log 2, log 6 and log 16, `bank`
where there is no bank as log 17. -/
def Obligations.DumpRom : Prop :=
  ∀ s, running s = true → s.srClk = false → s.dir = .input → s.txReady = true → s.variant ≠ .romOnly →
    ∃ s1, exec .dumpRom s = .next s1 ∧ Reaches s1 (afterRomBanks s.romBanks.toNat s)

/-- DumpRom sends the bytes it reads, every bank in ascending order and nothing more: `rom_banks × 16384` bytes, for whatever
the environment answers (R44, R96, R101; log 6). -/
def Obligations.DumpRomSends : Prop :=
  ∀ s bs rest, running s = true → s.srClk = false → s.dir = .input → s.txReady = true → s.variant ≠ .romOnly →
    memoriesCanonical s = true → bs.length = s.romBanks.toNat * 16384 → s.answers = bs ++ rest →
    ∃ s1 t, exec .dumpRom s = .next s1 ∧ Reaches s1 t ∧ t.tx = s.tx ++ bs ∧ t.answers = rest ∧ t.rx = s.rx
      ∧ t.hdr = s.hdr ∧ t.cbuf = s.cbuf ∧ t.work = s.work ∧ t.fsm = s.fsm

/-- DumpRom on a RomOnly cartridge: bank 0 is dumped, then Fault(1) at the request of bank 1 (R96 corner case (a), R75);
loop registers, oracle and `areg` as log 2, log 6 and log 16. -/
def Obligations.DumpRomRomOnly : Prop :=
  ∀ s, running s = true → s.srClk = false → s.dir = .input → s.txReady = true → s.variant = .romOnly →
    2 ≤ s.romBanks.toNat →
    ∃ s1, exec .dumpRom s = .next s1
      ∧ Reaches s1 (takeFault .unsupportedOperation { afterRomBank 0 s with bank := 1 })

/-- DumpRam where a RAM bank can be selected, or there is none (R97); loop registers and oracle as log 2 and log 6, `bank`
where there is no bank as log 17. -/
def Obligations.DumpRam : Prop :=
  ∀ s, running s = true → s.srClk = false → s.dir = .input → s.txReady = true →
    hasRamBanks s.variant = true ∨ s.ramBanks = 0 →
    ∃ s1, exec .dumpRam s = .next s1 ∧ Reaches s1 (afterDumpRam s)

/-- FlashRam where a RAM bank can be selected, or there is none, with the payload there (R98); loop registers as log 2,
`bank` where there is no bank as log 17. -/
def Obligations.FlashRam : Prop :=
  ∀ s, running s = true → s.srClk = false → s.dir = .input → s.txReady = true →
    hasRamBanks s.variant = true ∨ s.ramBanks = 0 → s.ramBanks.toNat * 8192 ≤ s.rx.length →
    ∃ s1, exec .flashRam s = .next s1 ∧ Reaches s1 (afterFlashRam s)

/-- R98: FlashRam's events, in their order, for every payload: RAM enabled; for each bank its select write, and 256 times 32
bytes received, the same 32 bytes written at ascending addresses from 0xA000, and 0xAB sent; then 0xAA; RAM disabled at the
end. The payload is consumed, the markers are all that is sent, and no memory but `cbuf` changes. -/
def Obligations.FlashRamEvents : Prop :=
  ∀ s, running s = true → s.srClk = false → s.dir = .input → s.txReady = true →
    hasRamBanks s.variant = true ∨ s.ramBanks = 0 → s.ramBanks.toNat * 8192 ≤ s.rx.length →
    memoriesCanonical s = true →
    ∃ s1 t, exec .flashRam s = .next s1 ∧ Reaches s1 t
      ∧ t.trace = happened (flashEvents s.variant s.ramBanks.toNat fun i => s.rx.getD i 0) s
      ∧ t.rx = s.rx.drop (s.ramBanks.toNat * 8192)
      ∧ t.tx = s.tx ++ (List.replicate s.ramBanks.toNat (List.replicate 256 0xAB ++ [0xAA])).flatten
      ∧ t.buf = s.buf ∧ t.hdr = s.hdr ∧ t.answers = s.answers ∧ t.work = s.work ∧ t.fsm = s.fsm
      ∧ t.fault = s.fault ∧ busIdle t = true

/-- DumpRam and FlashRam on a cartridge whose variant has no RAM bank to select, with RAM banks in its header: RAM is enabled,
then Fault(1) at the request of bank 0; nothing is sent, no payload byte is consumed, and RAM stays enabled (R97 corner case
(b), R98 corner case (c), R123); the last value of `bitn` is log 2. -/
def Obligations.RamCommandsUnsupported : Prop :=
  ∀ s i, i = .dumpRam ∨ i = .flashRam → running s = true → s.srClk = false → s.dir = .input →
    hasRamBanks s.variant = false → s.ramBanks ≠ 0 →
    ∃ s1, exec i s = .next s1
      ∧ Reaches s1 (takeFault .unsupportedOperation (afterWrite 0x0000 0x0A { s with bank := 0 }))

/-! ## Invariants every step keeps, from every state that has them -/

/-- The bus discipline is kept: the pending lines leave the bus idle and keep the orders of R117 and R118, no two sides drive
the data lines, and a stopped block has an idle bus (R12, R70, R71). -/
def Obligations.BusDisciplineKept : Prop :=
  ∀ s t, busDiscipline s = true → step s = .next t → busDiscipline t = true

/-- Under the bus discipline, wherever the machine stops or waits the bus is idle (R70), and no data-bus call is ever made in
the wrong direction (R63). -/
def Obligations.StopsWithBusIdle : Prop :=
  ∀ s, busDiscipline s = true →
    (∀ r, step s = .fault r → busIdle s = true) ∧ step s ≠ .refused .wrongDirection

/-- That the session's registers are written in `INIT` only is kept (R91). -/
def Obligations.SessionSealedKept : Prop :=
  ∀ s t, sessionSealed s = true → step s = .next t → sessionSealed t = true

/-- R91: outside `INIT` no step but the reset changes `hdr`, `variant`, `rom_banks` or `ram_banks`. -/
def Obligations.SessionImmutable : Prop :=
  ∀ s t, sessionSealed s = true → s.fsm ≠ .init → s.rst = false → step s = .next t →
    t.hdr = s.hdr ∧ t.variant = s.variant ∧ t.romBanks = s.romBanks ∧ t.ramBanks = s.ramBanks

/-- The fault registers agree with the control state, and are kept so (R18, R102, R103). -/
def Obligations.FaultRegistersKept : Prop :=
  ∀ s t, faultRegistersAgree s = true → step s = .next t → faultRegistersAgree t = true

/-- The block's memories stay in canonical form (the model's form of R14 and R15). -/
def Obligations.MemoriesCanonicalKept : Prop :=
  ∀ s t, memoriesCanonical s = true → step s = .next t → memoriesCanonical t = true

/-- Reset has the four invariants. -/
def Obligations.InvariantsAtReset : Prop :=
  busDiscipline State.reset = true ∧ sessionSealed State.reset = true ∧ faultRegistersAgree State.reset = true
    ∧ memoriesCanonical State.reset = true

/-- A step makes at most one event, and the serial streams and the environment's answers change with their own events only
(R7, R22, R38; log 1, log 6). -/
def Obligations.StepEvents : Prop :=
  ∀ s t, step s = .next t →
    (t.trace = s.trace ∧ t.rx = s.rx ∧ t.tx = s.tx ∧ t.answers = s.answers)
    ∨ ∃ e, t.trace = e :: s.trace
      ∧ (match e with | .rx b => s.rx = b :: t.rx | _ => t.rx = s.rx)
      ∧ (match e with | .tx b => t.tx = s.tx ++ [b] ∧ s.txReady = true | _ => t.tx = s.tx)
      ∧ (match e with | .sample _ => t.answers = s.answers.tail | _ => t.answers = s.answers)
end

