-- ==== Sys2Proof/Laws/Memory.lean ====
section
/-! SUPPORT. The block's byte memories: read after write, and the canonical form kept. -/

namespace Sys2Proof.Machine

/-- Below a canonical memory's bound nothing is listed. -/
theorem Memory.read_below {m : Memory} {lo a : Nat} (h : Memory.wfFrom lo m = true) (ha : a < lo) :
    Memory.read m a = Memory.unlisted := by
  induction m generalizing lo with
  | nil => rfl
  | cons c m ih =>
    simp only [Memory.wfFrom, Bool.and_eq_true, decide_eq_true_eq] at h
    rw [Memory.read, if_neg (by omega)]
    exact ih h.2 (by omega)

/-- A canonical memory's bound may be lowered. -/
theorem Memory.wfFrom_mono {m : Memory} {lo lo' : Nat} (h : Memory.wfFrom lo m = true) (hl : lo' ≤ lo) :
    Memory.wfFrom lo' m = true := by
  cases m with
  | nil => rfl
  | cons c m =>
    simp only [Memory.wfFrom, Bool.and_eq_true, decide_eq_true_eq] at h ⊢
    exact ⟨⟨by omega, h.1.2⟩, h.2⟩

/-- A write at or above the bound keeps the canonical form. -/
theorem Memory.write_wfFrom {m : Memory} {lo a : Nat} (v : Byte) (h : Memory.wfFrom lo m = true) (ha : lo ≤ a) :
    Memory.wfFrom lo (Memory.write m a v) = true := by
  induction m generalizing lo with
  | nil => by_cases hv : v = Memory.unlisted <;> simp [Memory.write, Memory.wfFrom, hv, ha]
  | cons c m ih =>
    have h' := h
    simp only [Memory.wfFrom, Bool.and_eq_true, decide_eq_true_eq] at h
    unfold Memory.write
    split
    next hlt =>
      split
      next => exact h'
      next hv =>
        simp only [Memory.wfFrom, Bool.and_eq_true, decide_eq_true_eq]
        exact ⟨⟨ha, hv⟩, ⟨by omega, h.1.2⟩, h.2⟩
    next hlt =>
      split
      next heq =>
        split
        next => exact Memory.wfFrom_mono h.2 (by omega)
        next hv =>
          simp only [Memory.wfFrom, Bool.and_eq_true, decide_eq_true_eq]
          exact ⟨⟨ha, hv⟩, by rw [heq]; exact h.2⟩
      next hne =>
        simp only [Memory.wfFrom, Bool.and_eq_true, decide_eq_true_eq]
        exact ⟨h.1, ih h.2 (by omega)⟩

/-- Every write keeps the canonical form. -/
theorem Memory.write_wf {m : Memory} (a : Nat) (v : Byte) (h : Memory.wf m = true) :
    Memory.wf (Memory.write m a v) = true :=
  Memory.write_wfFrom v h (Nat.zero_le a)

/-- A read of the address just written gives the byte written. -/
theorem Memory.read_write_same {m : Memory} (a : Nat) (v : Byte) (h : Memory.wf m = true) :
    Memory.read (Memory.write m a v) a = v := by
  have gen : ∀ (m : Memory) (lo : Nat), Memory.wfFrom lo m = true → Memory.read (Memory.write m a v) a = v := by
    intro m
    induction m with
    | nil => intro lo _; by_cases hv : v = Memory.unlisted <;> simp [Memory.write, Memory.read, hv]
    | cons c m ih =>
      intro lo h
      have h' := h
      simp only [Memory.wfFrom, Bool.and_eq_true, decide_eq_true_eq] at h
      unfold Memory.write
      split
      next hlt =>
        split
        next hv => rw [hv]; exact Memory.read_below (Memory.wfFrom_mono h' (Nat.le_refl _) |> fun _ => by
            simp only [Memory.wfFrom, Bool.and_eq_true, decide_eq_true_eq]
            exact ⟨⟨Nat.le_refl c.1, h.1.2⟩, h.2⟩) hlt
        next => simp [Memory.read]
      next hlt =>
        split
        next heq =>
          split
          next hv => rw [hv]; exact Memory.read_below h.2 (by omega)
          next => simp [Memory.read]
        next hne =>
          rw [Memory.read, if_neg (by omega)]
          exact ih _ h.2
  exact gen m 0 h

/-- A write leaves every other address alone. -/
theorem Memory.read_write_other (m : Memory) {a b : Nat} (v : Byte) (hab : b ≠ a) :
    Memory.read (Memory.write m a v) b = Memory.read m b := by
  induction m with
  | nil => by_cases hv : v = Memory.unlisted <;> simp [Memory.write, Memory.read, hv, hab.symm]
  | cons c m ih =>
    unfold Memory.write
    split
    next => split <;> simp [Memory.read, hab.symm]
    next =>
      split
      next heq =>
        split
        next => simp [Memory.read, ← heq, hab.symm]
        next => simp [Memory.read, ← heq, hab.symm]
      next => simp only [Memory.read, ih]

/-- Copying the header keeps the canonical form. -/
theorem copyHeader_wf {buf hdr : Memory} (n : Nat) (h : Memory.wf hdr = true) :
    Memory.wf (copyHeader buf n hdr) = true := by
  induction n with
  | zero => exact h
  | succ n ih => exact Memory.write_wf _ _ ih

/-- Each copied header byte is the byte of the buffer it comes from (R86). -/
theorem copyHeader_read {buf hdr : Memory} (n i : Nat) (h : Memory.wf hdr = true) (hi : i < n) :
    Memory.read (copyHeader buf n hdr) i = Memory.read buf (Config.headerBase + i) := by
  induction n with
  | zero => omega
  | succ n ih =>
    rcases Nat.lt_succ_iff_lt_or_eq.mp hi with hlt | rfl
    · rw [copyHeader, Memory.read_write_other _ _ (by omega), ih hlt]
    · exact Memory.read_write_same _ _ (copyHeader_wf i h)

/-- The memories of the reset state are canonical. -/
theorem reset_memories : memoriesCanonical State.reset = true := by decide

end Sys2Proof.Machine
end

