-- ==== Sys2Proof/Laws/State.lean ====
section
/-! SUPPORT. One lemma per field per shared update of the state, each true by unfolding once, so that no later proof
unfolds a record update. -/

namespace Sys2Proof.Machine

/-! ## `emit` -/

@[simp] theorem emit_srData (e : Event) (s : State) : (emit e s).srData = s.srData := rfl
@[simp] theorem emit_srClk (e : Event) (s : State) : (emit e s).srClk = s.srClk := rfl
@[simp] theorem emit_srLatch (e : Event) (s : State) : (emit e s).srLatch = s.srLatch := rfl
@[simp] theorem emit_rdN (e : Event) (s : State) : (emit e s).rdN = s.rdN := rfl
@[simp] theorem emit_wrN (e : Event) (s : State) : (emit e s).wrN = s.wrN := rfl
@[simp] theorem emit_dir (e : Event) (s : State) : (emit e s).dir = s.dir := rfl
@[simp] theorem emit_dqOut (e : Event) (s : State) : (emit e s).dqOut = s.dqOut := rfl
@[simp] theorem emit_areg (e : Event) (s : State) : (emit e s).areg = s.areg := rfl
@[simp] theorem emit_dreg (e : Event) (s : State) : (emit e s).dreg = s.dreg := rfl
@[simp] theorem emit_bitn (e : Event) (s : State) : (emit e s).bitn = s.bitn := rfl
@[simp] theorem emit_bank (e : Event) (s : State) : (emit e s).bank = s.bank := rfl
@[simp] theorem emit_blk (e : Event) (s : State) : (emit e s).blk = s.blk := rfl
@[simp] theorem emit_chunk (e : Event) (s : State) : (emit e s).chunk = s.chunk := rfl
@[simp] theorem emit_idx (e : Event) (s : State) : (emit e s).idx = s.idx := rfl
@[simp] theorem emit_cmd (e : Event) (s : State) : (emit e s).cmd = s.cmd := rfl
@[simp] theorem emit_buf (e : Event) (s : State) : (emit e s).buf = s.buf := rfl
@[simp] theorem emit_cbuf (e : Event) (s : State) : (emit e s).cbuf = s.cbuf := rfl
@[simp] theorem emit_hdr (e : Event) (s : State) : (emit e s).hdr = s.hdr := rfl
@[simp] theorem emit_variant (e : Event) (s : State) : (emit e s).variant = s.variant := rfl
@[simp] theorem emit_romBanks (e : Event) (s : State) : (emit e s).romBanks = s.romBanks := rfl
@[simp] theorem emit_ramBanks (e : Event) (s : State) : (emit e s).ramBanks = s.ramBanks := rfl
@[simp] theorem emit_fsm (e : Event) (s : State) : (emit e s).fsm = s.fsm := rfl
@[simp] theorem emit_work (e : Event) (s : State) : (emit e s).work = s.work := rfl
@[simp] theorem emit_fault (e : Event) (s : State) : (emit e s).fault = s.fault := rfl
@[simp] theorem emit_faultCode (e : Event) (s : State) : (emit e s).faultCode = s.faultCode := rfl
@[simp] theorem emit_tmr (e : Event) (s : State) : (emit e s).tmr = s.tmr := rfl
@[simp] theorem emit_rst (e : Event) (s : State) : (emit e s).rst = s.rst := rfl
@[simp] theorem emit_extQ (e : Event) (s : State) : (emit e s).extQ = s.extQ := rfl
@[simp] theorem emit_extA (e : Event) (s : State) : (emit e s).extA = s.extA := rfl
@[simp] theorem emit_rx (e : Event) (s : State) : (emit e s).rx = s.rx := rfl
@[simp] theorem emit_tx (e : Event) (s : State) : (emit e s).tx = s.tx := rfl
@[simp] theorem emit_txReady (e : Event) (s : State) : (emit e s).txReady = s.txReady := rfl
@[simp] theorem emit_answers (e : Event) (s : State) : (emit e s).answers = s.answers := rfl
@[simp] theorem emit_trace (e : Event) (s : State) : (emit e s).trace = e :: s.trace := rfl
@[simp] theorem emit_cfg (e : Event) (s : State) : (emit e s).cfg = s.cfg := rfl

/-! ## `enter` -/

@[simp] theorem enter_srData (l : List Task) (s : State) : (enter l s).srData = s.srData := rfl
@[simp] theorem enter_srClk (l : List Task) (s : State) : (enter l s).srClk = s.srClk := rfl
@[simp] theorem enter_srLatch (l : List Task) (s : State) : (enter l s).srLatch = s.srLatch := rfl
@[simp] theorem enter_rdN (l : List Task) (s : State) : (enter l s).rdN = s.rdN := rfl
@[simp] theorem enter_wrN (l : List Task) (s : State) : (enter l s).wrN = s.wrN := rfl
@[simp] theorem enter_dir (l : List Task) (s : State) : (enter l s).dir = s.dir := rfl
@[simp] theorem enter_dqOut (l : List Task) (s : State) : (enter l s).dqOut = s.dqOut := rfl
@[simp] theorem enter_areg (l : List Task) (s : State) : (enter l s).areg = s.areg := rfl
@[simp] theorem enter_dreg (l : List Task) (s : State) : (enter l s).dreg = s.dreg := rfl
@[simp] theorem enter_bitn (l : List Task) (s : State) : (enter l s).bitn = s.bitn := rfl
@[simp] theorem enter_bank (l : List Task) (s : State) : (enter l s).bank = s.bank := rfl
@[simp] theorem enter_blk (l : List Task) (s : State) : (enter l s).blk = s.blk := rfl
@[simp] theorem enter_chunk (l : List Task) (s : State) : (enter l s).chunk = s.chunk := rfl
@[simp] theorem enter_idx (l : List Task) (s : State) : (enter l s).idx = s.idx := rfl
@[simp] theorem enter_cmd (l : List Task) (s : State) : (enter l s).cmd = s.cmd := rfl
@[simp] theorem enter_buf (l : List Task) (s : State) : (enter l s).buf = s.buf := rfl
@[simp] theorem enter_cbuf (l : List Task) (s : State) : (enter l s).cbuf = s.cbuf := rfl
@[simp] theorem enter_hdr (l : List Task) (s : State) : (enter l s).hdr = s.hdr := rfl
@[simp] theorem enter_variant (l : List Task) (s : State) : (enter l s).variant = s.variant := rfl
@[simp] theorem enter_romBanks (l : List Task) (s : State) : (enter l s).romBanks = s.romBanks := rfl
@[simp] theorem enter_ramBanks (l : List Task) (s : State) : (enter l s).ramBanks = s.ramBanks := rfl
@[simp] theorem enter_fsm (l : List Task) (s : State) : (enter l s).fsm = s.fsm := rfl
@[simp] theorem enter_work (l : List Task) (s : State) : (enter l s).work = l ++ s.work := rfl
@[simp] theorem enter_fault (l : List Task) (s : State) : (enter l s).fault = s.fault := rfl
@[simp] theorem enter_faultCode (l : List Task) (s : State) : (enter l s).faultCode = s.faultCode := rfl
@[simp] theorem enter_tmr (l : List Task) (s : State) : (enter l s).tmr = s.tmr := rfl
@[simp] theorem enter_rst (l : List Task) (s : State) : (enter l s).rst = s.rst := rfl
@[simp] theorem enter_extQ (l : List Task) (s : State) : (enter l s).extQ = s.extQ := rfl
@[simp] theorem enter_extA (l : List Task) (s : State) : (enter l s).extA = s.extA := rfl
@[simp] theorem enter_rx (l : List Task) (s : State) : (enter l s).rx = s.rx := rfl
@[simp] theorem enter_tx (l : List Task) (s : State) : (enter l s).tx = s.tx := rfl
@[simp] theorem enter_txReady (l : List Task) (s : State) : (enter l s).txReady = s.txReady := rfl
@[simp] theorem enter_answers (l : List Task) (s : State) : (enter l s).answers = s.answers := rfl
@[simp] theorem enter_trace (l : List Task) (s : State) : (enter l s).trace = s.trace := rfl
@[simp] theorem enter_cfg (l : List Task) (s : State) : (enter l s).cfg = s.cfg := rfl

/-! ## `setDir` -/

@[simp] theorem setDir_srData (d : Dir) (s : State) : (setDir d s).srData = s.srData := rfl
@[simp] theorem setDir_srClk (d : Dir) (s : State) : (setDir d s).srClk = s.srClk := rfl
@[simp] theorem setDir_srLatch (d : Dir) (s : State) : (setDir d s).srLatch = s.srLatch := rfl
@[simp] theorem setDir_rdN (d : Dir) (s : State) : (setDir d s).rdN = s.rdN := rfl
@[simp] theorem setDir_wrN (d : Dir) (s : State) : (setDir d s).wrN = s.wrN := rfl
@[simp] theorem setDir_dir (d : Dir) (s : State) : (setDir d s).dir = d := rfl
@[simp] theorem setDir_dqOut (d : Dir) (s : State) : (setDir d s).dqOut = s.dqOut := rfl
@[simp] theorem setDir_areg (d : Dir) (s : State) : (setDir d s).areg = s.areg := rfl
@[simp] theorem setDir_dreg (d : Dir) (s : State) : (setDir d s).dreg = s.dreg := rfl
@[simp] theorem setDir_bitn (d : Dir) (s : State) : (setDir d s).bitn = s.bitn := rfl
@[simp] theorem setDir_bank (d : Dir) (s : State) : (setDir d s).bank = s.bank := rfl
@[simp] theorem setDir_blk (d : Dir) (s : State) : (setDir d s).blk = s.blk := rfl
@[simp] theorem setDir_chunk (d : Dir) (s : State) : (setDir d s).chunk = s.chunk := rfl
@[simp] theorem setDir_idx (d : Dir) (s : State) : (setDir d s).idx = s.idx := rfl
@[simp] theorem setDir_cmd (d : Dir) (s : State) : (setDir d s).cmd = s.cmd := rfl
@[simp] theorem setDir_buf (d : Dir) (s : State) : (setDir d s).buf = s.buf := rfl
@[simp] theorem setDir_cbuf (d : Dir) (s : State) : (setDir d s).cbuf = s.cbuf := rfl
@[simp] theorem setDir_hdr (d : Dir) (s : State) : (setDir d s).hdr = s.hdr := rfl
@[simp] theorem setDir_variant (d : Dir) (s : State) : (setDir d s).variant = s.variant := rfl
@[simp] theorem setDir_romBanks (d : Dir) (s : State) : (setDir d s).romBanks = s.romBanks := rfl
@[simp] theorem setDir_ramBanks (d : Dir) (s : State) : (setDir d s).ramBanks = s.ramBanks := rfl
@[simp] theorem setDir_fsm (d : Dir) (s : State) : (setDir d s).fsm = s.fsm := rfl
@[simp] theorem setDir_work (d : Dir) (s : State) : (setDir d s).work = s.work := rfl
@[simp] theorem setDir_fault (d : Dir) (s : State) : (setDir d s).fault = s.fault := rfl
@[simp] theorem setDir_faultCode (d : Dir) (s : State) : (setDir d s).faultCode = s.faultCode := rfl
@[simp] theorem setDir_tmr (d : Dir) (s : State) : (setDir d s).tmr = s.tmr := rfl
@[simp] theorem setDir_rst (d : Dir) (s : State) : (setDir d s).rst = s.rst := rfl
@[simp] theorem setDir_extQ (d : Dir) (s : State) : (setDir d s).extQ = s.extQ := rfl
@[simp] theorem setDir_extA (d : Dir) (s : State) : (setDir d s).extA = s.extA := rfl
@[simp] theorem setDir_rx (d : Dir) (s : State) : (setDir d s).rx = s.rx := rfl
@[simp] theorem setDir_tx (d : Dir) (s : State) : (setDir d s).tx = s.tx := rfl
@[simp] theorem setDir_txReady (d : Dir) (s : State) : (setDir d s).txReady = s.txReady := rfl
@[simp] theorem setDir_answers (d : Dir) (s : State) : (setDir d s).answers = s.answers := rfl
@[simp] theorem setDir_trace (d : Dir) (s : State) : (setDir d s).trace = .setDir d :: s.trace := rfl
@[simp] theorem setDir_cfg (d : Dir) (s : State) : (setDir d s).cfg = s.cfg := rfl

/-! ## `setDQ` -/

@[simp] theorem setDQ_srData (v : BitVec 8) (s : State) : (setDQ v s).srData = s.srData := rfl
@[simp] theorem setDQ_srClk (v : BitVec 8) (s : State) : (setDQ v s).srClk = s.srClk := rfl
@[simp] theorem setDQ_srLatch (v : BitVec 8) (s : State) : (setDQ v s).srLatch = s.srLatch := rfl
@[simp] theorem setDQ_rdN (v : BitVec 8) (s : State) : (setDQ v s).rdN = s.rdN := rfl
@[simp] theorem setDQ_wrN (v : BitVec 8) (s : State) : (setDQ v s).wrN = s.wrN := rfl
@[simp] theorem setDQ_dir (v : BitVec 8) (s : State) : (setDQ v s).dir = s.dir := rfl
@[simp] theorem setDQ_dqOut (v : BitVec 8) (s : State) : (setDQ v s).dqOut = v := rfl
@[simp] theorem setDQ_areg (v : BitVec 8) (s : State) : (setDQ v s).areg = s.areg := rfl
@[simp] theorem setDQ_dreg (v : BitVec 8) (s : State) : (setDQ v s).dreg = s.dreg := rfl
@[simp] theorem setDQ_bitn (v : BitVec 8) (s : State) : (setDQ v s).bitn = s.bitn := rfl
@[simp] theorem setDQ_bank (v : BitVec 8) (s : State) : (setDQ v s).bank = s.bank := rfl
@[simp] theorem setDQ_blk (v : BitVec 8) (s : State) : (setDQ v s).blk = s.blk := rfl
@[simp] theorem setDQ_chunk (v : BitVec 8) (s : State) : (setDQ v s).chunk = s.chunk := rfl
@[simp] theorem setDQ_idx (v : BitVec 8) (s : State) : (setDQ v s).idx = s.idx := rfl
@[simp] theorem setDQ_cmd (v : BitVec 8) (s : State) : (setDQ v s).cmd = s.cmd := rfl
@[simp] theorem setDQ_buf (v : BitVec 8) (s : State) : (setDQ v s).buf = s.buf := rfl
@[simp] theorem setDQ_cbuf (v : BitVec 8) (s : State) : (setDQ v s).cbuf = s.cbuf := rfl
@[simp] theorem setDQ_hdr (v : BitVec 8) (s : State) : (setDQ v s).hdr = s.hdr := rfl
@[simp] theorem setDQ_variant (v : BitVec 8) (s : State) : (setDQ v s).variant = s.variant := rfl
@[simp] theorem setDQ_romBanks (v : BitVec 8) (s : State) : (setDQ v s).romBanks = s.romBanks := rfl
@[simp] theorem setDQ_ramBanks (v : BitVec 8) (s : State) : (setDQ v s).ramBanks = s.ramBanks := rfl
@[simp] theorem setDQ_fsm (v : BitVec 8) (s : State) : (setDQ v s).fsm = s.fsm := rfl
@[simp] theorem setDQ_work (v : BitVec 8) (s : State) : (setDQ v s).work = s.work := rfl
@[simp] theorem setDQ_fault (v : BitVec 8) (s : State) : (setDQ v s).fault = s.fault := rfl
@[simp] theorem setDQ_faultCode (v : BitVec 8) (s : State) : (setDQ v s).faultCode = s.faultCode := rfl
@[simp] theorem setDQ_tmr (v : BitVec 8) (s : State) : (setDQ v s).tmr = s.tmr := rfl
@[simp] theorem setDQ_rst (v : BitVec 8) (s : State) : (setDQ v s).rst = s.rst := rfl
@[simp] theorem setDQ_extQ (v : BitVec 8) (s : State) : (setDQ v s).extQ = s.extQ := rfl
@[simp] theorem setDQ_extA (v : BitVec 8) (s : State) : (setDQ v s).extA = s.extA := rfl
@[simp] theorem setDQ_rx (v : BitVec 8) (s : State) : (setDQ v s).rx = s.rx := rfl
@[simp] theorem setDQ_tx (v : BitVec 8) (s : State) : (setDQ v s).tx = s.tx := rfl
@[simp] theorem setDQ_txReady (v : BitVec 8) (s : State) : (setDQ v s).txReady = s.txReady := rfl
@[simp] theorem setDQ_answers (v : BitVec 8) (s : State) : (setDQ v s).answers = s.answers := rfl
@[simp] theorem setDQ_trace (v : BitVec 8) (s : State) : (setDQ v s).trace = .setDQ v :: s.trace := rfl
@[simp] theorem setDQ_cfg (v : BitVec 8) (s : State) : (setDQ v s).cfg = s.cfg := rfl

/-! ## `takeFault` -/

@[simp] theorem takeFault_srData (c : FaultCode) (s : State) : (takeFault c s).srData = s.srData := rfl
@[simp] theorem takeFault_srClk (c : FaultCode) (s : State) : (takeFault c s).srClk = s.srClk := rfl
@[simp] theorem takeFault_srLatch (c : FaultCode) (s : State) : (takeFault c s).srLatch = s.srLatch := rfl
@[simp] theorem takeFault_rdN (c : FaultCode) (s : State) : (takeFault c s).rdN = s.rdN := rfl
@[simp] theorem takeFault_wrN (c : FaultCode) (s : State) : (takeFault c s).wrN = s.wrN := rfl
@[simp] theorem takeFault_dir (c : FaultCode) (s : State) : (takeFault c s).dir = s.dir := rfl
@[simp] theorem takeFault_dqOut (c : FaultCode) (s : State) : (takeFault c s).dqOut = s.dqOut := rfl
@[simp] theorem takeFault_areg (c : FaultCode) (s : State) : (takeFault c s).areg = s.areg := rfl
@[simp] theorem takeFault_dreg (c : FaultCode) (s : State) : (takeFault c s).dreg = s.dreg := rfl
@[simp] theorem takeFault_bitn (c : FaultCode) (s : State) : (takeFault c s).bitn = s.bitn := rfl
@[simp] theorem takeFault_bank (c : FaultCode) (s : State) : (takeFault c s).bank = s.bank := rfl
@[simp] theorem takeFault_blk (c : FaultCode) (s : State) : (takeFault c s).blk = s.blk := rfl
@[simp] theorem takeFault_chunk (c : FaultCode) (s : State) : (takeFault c s).chunk = s.chunk := rfl
@[simp] theorem takeFault_idx (c : FaultCode) (s : State) : (takeFault c s).idx = s.idx := rfl
@[simp] theorem takeFault_cmd (c : FaultCode) (s : State) : (takeFault c s).cmd = s.cmd := rfl
@[simp] theorem takeFault_buf (c : FaultCode) (s : State) : (takeFault c s).buf = s.buf := rfl
@[simp] theorem takeFault_cbuf (c : FaultCode) (s : State) : (takeFault c s).cbuf = s.cbuf := rfl
@[simp] theorem takeFault_hdr (c : FaultCode) (s : State) : (takeFault c s).hdr = s.hdr := rfl
@[simp] theorem takeFault_variant (c : FaultCode) (s : State) : (takeFault c s).variant = s.variant := rfl
@[simp] theorem takeFault_romBanks (c : FaultCode) (s : State) : (takeFault c s).romBanks = s.romBanks := rfl
@[simp] theorem takeFault_ramBanks (c : FaultCode) (s : State) : (takeFault c s).ramBanks = s.ramBanks := rfl
@[simp] theorem takeFault_fsm (c : FaultCode) (s : State) : (takeFault c s).fsm = .fault := rfl
@[simp] theorem takeFault_work (c : FaultCode) (s : State) : (takeFault c s).work = [] := rfl
@[simp] theorem takeFault_fault (c : FaultCode) (s : State) : (takeFault c s).fault = true := rfl
@[simp] theorem takeFault_faultCode (c : FaultCode) (s : State) : (takeFault c s).faultCode = faultNumber c := rfl
@[simp] theorem takeFault_tmr (c : FaultCode) (s : State) : (takeFault c s).tmr = s.tmr := rfl
@[simp] theorem takeFault_rst (c : FaultCode) (s : State) : (takeFault c s).rst = s.rst := rfl
@[simp] theorem takeFault_extQ (c : FaultCode) (s : State) : (takeFault c s).extQ = s.extQ := rfl
@[simp] theorem takeFault_extA (c : FaultCode) (s : State) : (takeFault c s).extA = s.extA := rfl
@[simp] theorem takeFault_rx (c : FaultCode) (s : State) : (takeFault c s).rx = s.rx := rfl
@[simp] theorem takeFault_tx (c : FaultCode) (s : State) : (takeFault c s).tx = s.tx := rfl
@[simp] theorem takeFault_txReady (c : FaultCode) (s : State) : (takeFault c s).txReady = s.txReady := rfl
@[simp] theorem takeFault_answers (c : FaultCode) (s : State) : (takeFault c s).answers = s.answers := rfl
@[simp] theorem takeFault_trace (c : FaultCode) (s : State) : (takeFault c s).trace = .fault (faultNumber c) :: s.trace := rfl
@[simp] theorem takeFault_cfg (c : FaultCode) (s : State) : (takeFault c s).cfg = s.cfg := rfl

/-! ## `resetBlock` -/

@[simp] theorem resetBlock_srData (s : State) : (resetBlock s).srData = State.reset.srData := rfl
@[simp] theorem resetBlock_srClk (s : State) : (resetBlock s).srClk = State.reset.srClk := rfl
@[simp] theorem resetBlock_srLatch (s : State) : (resetBlock s).srLatch = State.reset.srLatch := rfl
@[simp] theorem resetBlock_rdN (s : State) : (resetBlock s).rdN = State.reset.rdN := rfl
@[simp] theorem resetBlock_wrN (s : State) : (resetBlock s).wrN = State.reset.wrN := rfl
@[simp] theorem resetBlock_dir (s : State) : (resetBlock s).dir = State.reset.dir := rfl
@[simp] theorem resetBlock_dqOut (s : State) : (resetBlock s).dqOut = State.reset.dqOut := rfl
@[simp] theorem resetBlock_areg (s : State) : (resetBlock s).areg = State.reset.areg := rfl
@[simp] theorem resetBlock_dreg (s : State) : (resetBlock s).dreg = State.reset.dreg := rfl
@[simp] theorem resetBlock_bitn (s : State) : (resetBlock s).bitn = State.reset.bitn := rfl
@[simp] theorem resetBlock_bank (s : State) : (resetBlock s).bank = State.reset.bank := rfl
@[simp] theorem resetBlock_blk (s : State) : (resetBlock s).blk = State.reset.blk := rfl
@[simp] theorem resetBlock_chunk (s : State) : (resetBlock s).chunk = State.reset.chunk := rfl
@[simp] theorem resetBlock_idx (s : State) : (resetBlock s).idx = State.reset.idx := rfl
@[simp] theorem resetBlock_cmd (s : State) : (resetBlock s).cmd = State.reset.cmd := rfl
@[simp] theorem resetBlock_buf (s : State) : (resetBlock s).buf = State.reset.buf := rfl
@[simp] theorem resetBlock_cbuf (s : State) : (resetBlock s).cbuf = State.reset.cbuf := rfl
@[simp] theorem resetBlock_hdr (s : State) : (resetBlock s).hdr = State.reset.hdr := rfl
@[simp] theorem resetBlock_variant (s : State) : (resetBlock s).variant = State.reset.variant := rfl
@[simp] theorem resetBlock_romBanks (s : State) : (resetBlock s).romBanks = State.reset.romBanks := rfl
@[simp] theorem resetBlock_ramBanks (s : State) : (resetBlock s).ramBanks = State.reset.ramBanks := rfl
@[simp] theorem resetBlock_fsm (s : State) : (resetBlock s).fsm = State.reset.fsm := rfl
@[simp] theorem resetBlock_work (s : State) : (resetBlock s).work = State.reset.work := rfl
@[simp] theorem resetBlock_fault (s : State) : (resetBlock s).fault = State.reset.fault := rfl
@[simp] theorem resetBlock_faultCode (s : State) : (resetBlock s).faultCode = State.reset.faultCode := rfl
@[simp] theorem resetBlock_tmr (s : State) : (resetBlock s).tmr = State.reset.tmr := rfl
@[simp] theorem resetBlock_rst (s : State) : (resetBlock s).rst = State.reset.rst := rfl
@[simp] theorem resetBlock_extQ (s : State) : (resetBlock s).extQ = s.extQ := rfl
@[simp] theorem resetBlock_extA (s : State) : (resetBlock s).extA = s.extA := rfl
@[simp] theorem resetBlock_rx (s : State) : (resetBlock s).rx = s.rx := rfl
@[simp] theorem resetBlock_tx (s : State) : (resetBlock s).tx = s.tx := rfl
@[simp] theorem resetBlock_txReady (s : State) : (resetBlock s).txReady = s.txReady := rfl
@[simp] theorem resetBlock_answers (s : State) : (resetBlock s).answers = s.answers := rfl
@[simp] theorem resetBlock_trace (s : State) : (resetBlock s).trace = s.trace := rfl
@[simp] theorem resetBlock_cfg (s : State) : (resetBlock s).cfg = s.cfg := rfl

/-! ## `setPin`, pin by pin -/

@[simp] theorem setPin_srData (b : Bool) (s : State) :
    setPin .srData b s = emit (.set .srData b) { s with srData := b } := rfl
@[simp] theorem setPin_srClk (b : Bool) (s : State) :
    setPin .srClk b s = emit (.set .srClk b)
      { s with srClk := b, extQ := if !s.srClk && b then shiftIn s.srData s.extQ else s.extQ } := rfl
@[simp] theorem setPin_srLatch (b : Bool) (s : State) :
    setPin .srLatch b s = emit (.set .srLatch b)
      { s with srLatch := b, extA := if !s.srLatch && b then s.extQ else s.extA } := rfl
@[simp] theorem setPin_rdN (b : Bool) (s : State) :
    setPin .rdN b s = emit (.set .rdN b) { s with rdN := b } := rfl
@[simp] theorem setPin_wrN (b : Bool) (s : State) :
    setPin .wrN b s = emit (.set .wrN b) { s with wrN := b } := rfl

/-- A pin write is one event. -/
theorem setPin_trace (p : Pin) (b : Bool) (s : State) : (setPin p b s).trace = .set p b :: s.trace := by
  cases p <;> rfl

end Sys2Proof.Machine
end

