-- ==== Sys2Proof/Laws/Ops.lean ====
section
/-! SUPPORT. What each shared operation can do, said once. -/

namespace Sys2Proof.Machine

/-- The pin map is the same in both directions (R46, R64). -/
@[simp] theorem pinMap_pinMap (v : BitVec 8) : pinMap (pinMap v) = v := by
  revert v; decide

/-- Bit `i` of a pin vector is value bit `7 - i` (R46). -/
theorem pinMap_bit (v : BitVec 8) (p : Fin 8) : (pinMap v).getLsbD p = v.getLsbD (7 - p) := by
  revert v p; decide

/-- All lines low is the value 0. -/
@[simp] theorem pinMap_zero : pinMap 0#8 = 0#8 := by decide

/-- A `SerRead` that answers took the head of `rx`. -/
theorem serRead_eq_next {s t : State} {k : Byte → State → State} (h : serRead s k = .next t) :
    ∃ b rest, s.rx = b :: rest ∧ t = k b (emit (.rx b) { s with rx := rest }) := by
  unfold serRead at h
  split at h
  · cases h
  next b rest hrx => exact ⟨b, rest, hrx, by injection h with h; exact h.symm⟩

/-- A `SerRead` with a byte there takes it. -/
theorem serRead_cons {s : State} {b : Byte} {rest : List Byte} (k : Byte → State → State) (h : s.rx = b :: rest) :
    serRead s k = .next (k b (emit (.rx b) { s with rx := rest })) := by
  simp [serRead, h]

/-- A `SerRead` never answers anything else than a next state or the wait. -/
theorem serRead_wait {s : State} (k : Byte → State → State) (h : s.rx = []) :
    serRead s k = .fault .serialReadWait := by
  simp [serRead, h]

/-- A `SerWrite` that answers was accepted. -/
theorem serWrite_eq_next {s t : State} {b : Byte} {k : State → State} (h : serWrite b s k = .next t) :
    s.txReady = true ∧ t = k (emit (.tx b) { s with tx := s.tx ++ [b] }) := by
  unfold serWrite at h
  split at h
  next hr => exact ⟨hr, by injection h with h; exact h.symm⟩
  · cases h

/-- A `SerWrite` the transport accepts is appended. -/
theorem serWrite_ready {s : State} (b : Byte) (k : State → State) (h : s.txReady = true) :
    serWrite b s k = .next (k (emit (.tx b) { s with tx := s.tx ++ [b] })) := by
  simp [serWrite, h]

/-- The bits of the shift stage after one clock edge (R57). -/
theorem shiftIn_bit (d : Bool) (q : Half) (i : Nat) :
    (shiftIn d q).getLsbD i = if i = 15 then d else if i < 15 then q.getLsbD (i + 1) else false := by
  unfold shiftIn
  rw [BitVec.getLsbD_cons]
  by_cases h : i = 15
  · simp [h]
  · simp only [h, if_false, BitVec.getLsbD_extractLsb']
    by_cases h2 : i < 15
    · simp [h2, Nat.add_comm]
    · simp [h2]

/-- Sixteen clock edges with the bits of `a` in order of their number leave `a` in the shift stage, whatever was there
(R45, R57). -/
theorem shiftIn_frame (a q : Half) : (List.range 16).foldl (fun q k => shiftIn (a.getLsbD k) q) q = a := by
  apply BitVec.eq_of_getLsbD_eq
  intro i hi
  simp only [show List.range 16 = [0, 1, 2, 3, 4, 5, 6, 7, 8, 9, 10, 11, 12, 13, 14, 15] from rfl, List.foldl]
  interval_cases i <;> simp only [shiftIn_bit] <;> rfl

/-- `to_output` in its direction (R59). -/
theorem execToOutput_input {s : State} (h : s.dir = .input) : execToOutput s = .next (setDir .output s) := by
  simp [execToOutput, h]

/-- `to_input` in its direction (R60). -/
theorem execToInput_output {s : State} (h : s.dir = .output) : execToInput s = .next (setDir .input s) := by
  simp [execToInput, h]

/-- `db_write` in its direction (R62). -/
theorem execDbWrite_output {s : State} (v : Byte) (h : s.dir = .output) :
    execDbWrite v s = .next (setDQ (pinMap v) { s with dreg := v }) := by
  simp [execDbWrite, h]

/-- `db_read` in its direction: the byte the environment put on the lines is in `dreg` (R33, R61). -/
theorem execDbRead_input {s : State} (h : s.dir = .input) :
    execDbRead s = .next (emit (.sample (pinMap (lineByte s)))
      { s with dreg := lineByte s, answers := s.answers.tail }) := by
  simp [execDbRead, h]

/-- The bus is idle exactly when the levels are those of R70. -/
theorem busIdle_iff (s : State) : busIdle s = true ↔ busOf s = idleBus := by
  cases s
  simp [busIdle, busOf, idleBus, Bool.and_eq_true]
  tauto

end Sys2Proof.Machine
end

