-- ==== Sys2Proof/Laws/PerInstr.lean ====
section
/-! SUPPORT. Statements about every instruction, one lemma per constructor. `EncodeFits`: the word of an instruction has no
bit above its format's width. -/

namespace Sys2Proof.Laws.EncodeFits

/-- The word an instruction is encoded in fits the width of its format. -/
def Statement (i : Instr) : Prop := ∀ f w, encode i = some (f, w) → w < 2 ^ f.width

/-- A word named outright. -/
theorem of_word {i : Instr} {f : Format} {w : Nat} (h : encode i = some (f, w)) (hw : w < 2 ^ f.width) :
    Statement i := by
  intro f' w' h'
  rw [h] at h'
  cases h'
  exact hw

/-- An instruction without words. -/
theorem of_none {i : Instr} (h : encode i = none) : Statement i := fun f w h' => by simp [h] at h'

/-- A byte row: its match bits and its bits outside the mask together are below 256. -/
theorem of_byte {i : Instr} {f : Format} {p n : Nat} (low : BitVec n) (h : encode i = some (f, p + low.toNat))
    (hf : f.width = 8) (hn : p + 2 ^ n ≤ 256) : Statement i :=
  of_word h (by have := low.isLt; rw [hf]; omega)

/-- A 24-bit pattern fits 24 bits (R48). -/
theorem pattern24_lt (a : Half) (v : Byte) : pattern24 a v < 2 ^ 24 := by
  have ha := a.isLt
  have hv := v.isLt
  unfold pattern24
  omega

/-- A row of 24 bits. -/
theorem of_pattern {i : Instr} {f : Format} {a : Half} {v : Byte} (h : encode i = some (f, pattern24 a v))
    (hf : f.width = 24) : Statement i :=
  of_word h (hf ▸ pattern24_lt a v)

theorem sync : Statement .sync := of_word rfl (by decide)
theorem idleDiscard00 (low : BitVec 7) : Statement (.idleDiscard00 low) := of_byte low rfl rfl (by decide)
theorem idleDiscard80 (low : BitVec 6) : Statement (.idleDiscard80 low) := of_byte low rfl rfl (by decide)
theorem idleDiscardC0 (low : BitVec 3) : Statement (.idleDiscardC0 low) := of_byte low rfl rfl (by decide)
theorem idleDiscardC8 (low : BitVec 1) : Statement (.idleDiscardC8 low) := of_byte low rfl rfl (by decide)
theorem idleDiscardCB : Statement .idleDiscardCB := of_word rfl (by decide)
theorem idleDiscardCC (low : BitVec 2) : Statement (.idleDiscardCC low) := of_byte low rfl rfl (by decide)
theorem idleDiscardD0 (low : BitVec 4) : Statement (.idleDiscardD0 low) := of_byte low rfl rfl (by decide)
theorem idleDiscardE0 (low : BitVec 5) : Statement (.idleDiscardE0 low) := of_byte low rfl rfl (by decide)
theorem dumpHdr : Statement .dumpHdr := of_word rfl (by decide)
theorem dumpRom : Statement .dumpRom := of_word rfl (by decide)
theorem dumpRam : Statement .dumpRam := of_word rfl (by decide)
theorem flashRam : Statement .flashRam := of_word rfl (by decide)
theorem nop03 : Statement .nop03 := of_word rfl (by decide)
theorem nop05 : Statement .nop05 := of_word rfl (by decide)
theorem nop06 (low : BitVec 1) : Statement (.nop06 low) := of_byte low rfl rfl (by decide)
theorem nop08 (low : BitVec 3) : Statement (.nop08 low) := of_byte low rfl rfl (by decide)
theorem nop10 (low : BitVec 4) : Statement (.nop10 low) := of_byte low rfl rfl (by decide)
theorem nop20 (low : BitVec 5) : Statement (.nop20 low) := of_byte low rfl rfl (by decide)
theorem nop40 (low : BitVec 6) : Statement (.nop40 low) := of_byte low rfl rfl (by decide)
theorem nop80 (low : BitVec 7) : Statement (.nop80 low) := of_byte low rfl rfl (by decide)
theorem ackChunk : Statement .ackChunk := of_word rfl (by decide)
theorem endBank : Statement .endBank := of_word rfl (by decide)
theorem enableRam : Statement .enableRam := of_pattern rfl rfl
theorem disableRam : Statement .disableRam := of_pattern rfl rfl
theorem mbc1RomW1 (b : BitVec 5) : Statement (.mbc1RomW1 b) := of_pattern rfl rfl
theorem mbc1RomW2 (h : BitVec 2) : Statement (.mbc1RomW2 h) := of_pattern rfl rfl
theorem mbc1Ram (r : BitVec 2) : Statement (.mbc1Ram r) := of_pattern rfl rfl
theorem mbc2Rom (b : BitVec 4) : Statement (.mbc2Rom b) := of_pattern rfl rfl
theorem mbc3Rom (b : BitVec 7) : Statement (.mbc3Rom b) := of_pattern rfl rfl
theorem mbc3Ram (r : BitVec 2) : Statement (.mbc3Ram r) := of_pattern rfl rfl
theorem mbc5RomW1 (h : BitVec 1) : Statement (.mbc5RomW1 h) := of_pattern rfl rfl
theorem mbc5RomW2 (b : BitVec 8) : Statement (.mbc5RomW2 b) := of_pattern rfl rfl
theorem mbc5Ram (r : BitVec 4) : Statement (.mbc5Ram r) := of_pattern rfl rfl
theorem setAddress (a : Half) : Statement (.setAddress a) := of_word rfl a.isLt
theorem shiftBit (b : Bool) : Statement (.shiftBit b) := of_word rfl (by cases b <;> decide)
theorem dbWrite (v : Byte) : Statement (.dbWrite v) := of_word rfl v.isLt
theorem dbRead : Statement .dbRead := of_none rfl
theorem readByte (a : Half) : Statement (.readByte a) := of_word rfl a.isLt
theorem writeByte (a : Half) (v : Byte) : Statement (.writeByte a v) := of_pattern rfl rfl
theorem toOutput : Statement .toOutput := of_none rfl
theorem toInput : Statement .toInput := of_none rfl
theorem readBlock (a : Half) : Statement (.readBlock a) := of_none rfl
theorem delay (t : Nat) : Statement (.delay t) := of_none rfl
theorem selectRomBank (n : Half) : Statement (.selectRomBank n) := of_none rfl
theorem selectRamBank (n : Byte) : Statement (.selectRamBank n) := of_none rfl
theorem romOnlyRom (n : Half) : Statement (.romOnlyRom n) := of_none rfl
theorem romOnlyRam (n : Byte) : Statement (.romOnlyRam n) := of_none rfl
theorem mbc2Ram (n : Byte) : Statement (.mbc2Ram n) := of_none rfl
theorem init : Statement .init := of_none rfl
theorem decodeHeader : Statement .decodeHeader := of_none rfl
theorem idle : Statement .idle := of_none rfl
theorem dispatch : Statement .dispatch := of_none rfl
theorem raiseFault (c : FaultCode) : Statement (.raiseFault c) := of_none rfl
theorem reset : Statement .reset := of_none rfl
theorem ctype00RomOnly : Statement .ctype00RomOnly := of_word rfl (by decide)
theorem ctype01Mbc1 : Statement .ctype01Mbc1 := of_word rfl (by decide)
theorem ctype02Mbc1 : Statement .ctype02Mbc1 := of_word rfl (by decide)
theorem ctype03Mbc1 : Statement .ctype03Mbc1 := of_word rfl (by decide)
theorem ctype05Mbc2 : Statement .ctype05Mbc2 := of_word rfl (by decide)
theorem ctype06Mbc2 : Statement .ctype06Mbc2 := of_word rfl (by decide)
theorem ctype0FMbc3 : Statement .ctype0FMbc3 := of_word rfl (by decide)
theorem ctype10Mbc3 : Statement .ctype10Mbc3 := of_word rfl (by decide)
theorem ctype11Mbc3 : Statement .ctype11Mbc3 := of_word rfl (by decide)
theorem ctype12Mbc3 : Statement .ctype12Mbc3 := of_word rfl (by decide)
theorem ctype13Mbc3 : Statement .ctype13Mbc3 := of_word rfl (by decide)
theorem ctype19Mbc5 : Statement .ctype19Mbc5 := of_word rfl (by decide)
theorem ctype1AMbc5 : Statement .ctype1AMbc5 := of_word rfl (by decide)
theorem ctype1BMbc5 : Statement .ctype1BMbc5 := of_word rfl (by decide)
theorem ctype1CMbc5 : Statement .ctype1CMbc5 := of_word rfl (by decide)
theorem ctype1DMbc5 : Statement .ctype1DMbc5 := of_word rfl (by decide)
theorem ctype1EMbc5 : Statement .ctype1EMbc5 := of_word rfl (by decide)
theorem ctypeInvalid04 : Statement .ctypeInvalid04 := of_word rfl (by decide)
theorem ctypeInvalid07 : Statement .ctypeInvalid07 := of_word rfl (by decide)
theorem ctypeInvalid08 (low : BitVec 2) : Statement (.ctypeInvalid08 low) := of_byte low rfl rfl (by decide)
theorem ctypeInvalid0C (low : BitVec 1) : Statement (.ctypeInvalid0C low) := of_byte low rfl rfl (by decide)
theorem ctypeInvalid0E : Statement .ctypeInvalid0E := of_word rfl (by decide)
theorem ctypeInvalid14 (low : BitVec 2) : Statement (.ctypeInvalid14 low) := of_byte low rfl rfl (by decide)
theorem ctypeInvalid18 : Statement .ctypeInvalid18 := of_word rfl (by decide)
theorem ctypeInvalid1F : Statement .ctypeInvalid1F := of_word rfl (by decide)
theorem ctypeInvalid20 (low : BitVec 5) : Statement (.ctypeInvalid20 low) := of_byte low rfl rfl (by decide)
theorem ctypeInvalid40 (low : BitVec 6) : Statement (.ctypeInvalid40 low) := of_byte low rfl rfl (by decide)
theorem ctypeInvalid80 (low : BitVec 7) : Statement (.ctypeInvalid80 low) := of_byte low rfl rfl (by decide)
theorem romsz00 : Statement .romsz00 := of_word rfl (by decide)
theorem romsz01 : Statement .romsz01 := of_word rfl (by decide)
theorem romsz02 : Statement .romsz02 := of_word rfl (by decide)
theorem romsz03 : Statement .romsz03 := of_word rfl (by decide)
theorem romsz04 : Statement .romsz04 := of_word rfl (by decide)
theorem romsz05 : Statement .romsz05 := of_word rfl (by decide)
theorem romsz06 : Statement .romsz06 := of_word rfl (by decide)
theorem romsz07 : Statement .romsz07 := of_word rfl (by decide)
theorem romsz08 : Statement .romsz08 := of_word rfl (by decide)
theorem romszInvalid09 : Statement .romszInvalid09 := of_word rfl (by decide)
theorem romszInvalid0A (low : BitVec 1) : Statement (.romszInvalid0A low) := of_byte low rfl rfl (by decide)
theorem romszInvalid0C (low : BitVec 2) : Statement (.romszInvalid0C low) := of_byte low rfl rfl (by decide)
theorem romszInvalid10 (low : BitVec 4) : Statement (.romszInvalid10 low) := of_byte low rfl rfl (by decide)
theorem romszInvalid20 (low : BitVec 5) : Statement (.romszInvalid20 low) := of_byte low rfl rfl (by decide)
theorem romszInvalid40 (low : BitVec 6) : Statement (.romszInvalid40 low) := of_byte low rfl rfl (by decide)
theorem romszInvalid80 (low : BitVec 7) : Statement (.romszInvalid80 low) := of_byte low rfl rfl (by decide)
theorem ramsz00 : Statement .ramsz00 := of_word rfl (by decide)
theorem ramsz01 : Statement .ramsz01 := of_word rfl (by decide)
theorem ramsz02 : Statement .ramsz02 := of_word rfl (by decide)
theorem ramsz03 : Statement .ramsz03 := of_word rfl (by decide)
theorem ramsz04 : Statement .ramsz04 := of_word rfl (by decide)
theorem ramsz05 : Statement .ramsz05 := of_word rfl (by decide)
theorem ramszInvalid06 (low : BitVec 1) : Statement (.ramszInvalid06 low) := of_byte low rfl rfl (by decide)
theorem ramszInvalid08 (low : BitVec 3) : Statement (.ramszInvalid08 low) := of_byte low rfl rfl (by decide)
theorem ramszInvalid10 (low : BitVec 4) : Statement (.ramszInvalid10 low) := of_byte low rfl rfl (by decide)
theorem ramszInvalid20 (low : BitVec 5) : Statement (.ramszInvalid20 low) := of_byte low rfl rfl (by decide)
theorem ramszInvalid40 (low : BitVec 6) : Statement (.ramszInvalid40 low) := of_byte low rfl rfl (by decide)
theorem ramszInvalid80 (low : BitVec 7) : Statement (.ramszInvalid80 low) := of_byte low rfl rfl (by decide)

end Sys2Proof.Laws.EncodeFits
end

