-- ==== Sys2Proof/Laws/Run.lean ====
section
/-! SUPPORT. Runs: how one step of the machine reads off its position, and how steps compose. -/

namespace Sys2Proof.Machine

/-- No step at all. -/
theorem Reaches.refl (s : State) : Reaches s s := ⟨0, rfl⟩

/-- A run of one step more, where the first step answers. -/
theorem run_succ (M : Host.Core) {s t : M.State} (n : Nat) (h : M.step s = .next t) :
    M.run (n + 1) s = M.run n t := by
  simp [Host.Core.run, h]

/-- A run that answers after at least one step answered at the first. -/
theorem run_succ_next (M : Host.Core) {s u : M.State} {n : Nat} (h : M.run (n + 1) s = .next u) :
    ∃ t, M.step s = .next t ∧ M.run n t = .next u := by
  simp only [Host.Core.run] at h
  split at h
  next t ht => exact ⟨t, ht, h⟩
  all_goals cases h

/-- One step, then a run. -/
theorem Reaches.head {s t u : State} (h : step s = .next t) (r : Reaches t u) : Reaches s u := by
  obtain ⟨n, hn⟩ := r
  exact ⟨n + 1, (run_succ Sys2Proof.core n h).trans hn⟩

/-- Runs compose. -/
theorem Reaches.trans {s t u : State} (h : Reaches s t) (r : Reaches t u) : Reaches s u := by
  obtain ⟨n, hn⟩ := h
  induction n generalizing s with
  | zero => injection hn with hn; exact hn ▸ r
  | succ n ih =>
    obtain ⟨s', hs, hn'⟩ := run_succ_next Sys2Proof.core hn
    exact .head hs (ih hn')

/-- Outside reset and `FAULT`, a step runs the next pending line. -/
theorem step_line {s : State} {l : Task} {ls : List Task} (hr : running s = true) (hw : s.work = l :: ls) :
    step s = runLine l { s with work := ls } := by
  simp only [running, Bool.and_eq_true, Bool.not_eq_true', decide_eq_true_eq] at hr
  simp [step, runBlock, hr.1, hr.2, hw]

/-- Outside reset and `FAULT`, a step with no pending line does what the control state says. -/
theorem step_control {s : State} (hr : running s = true) (hw : s.work = []) : step s = runControl s := by
  simp only [running, Bool.and_eq_true, Bool.not_eq_true', decide_eq_true_eq] at hr
  simp [step, runBlock, hr.1, hr.2, hw]

/-- A pending line that answers, then a run. -/
theorem Reaches.line {s t u : State} {l : Task} {ls : List Task} (hr : running s = true) (hw : s.work = l :: ls)
    (h : runLine l { s with work := ls } = .next t) (r : Reaches t u) : Reaches s u :=
  .head (step_line hr hw ▸ h) r

/-- A pending call of an operation that completes, then a run. -/
theorem Reaches.call {s t u : State} {i : Instr} {ls : List Task} (hr : running s = true) (hw : s.work = .call i :: ls)
    (h : Completes i { s with work := ls } t) (r : Reaches t u) : Reaches s u := by
  obtain ⟨s1, h1, h2⟩ := h
  exact .line hr hw h1 (h2.trans r)

/-- Equal states. -/
theorem Reaches.of_eq {s t : State} (h : s = t) : Reaches s t := h ▸ .refl s

/-- A pending pin write, then a run. -/
theorem Reaches.setPin {s u : State} {p : Pin} {b : Bool} {ls : List Task} (hr : running s = true)
    (hw : s.work = .set p b :: ls) (r : Reaches (Machine.setPin p b { s with work := ls }) u) : Reaches s u :=
  .line hr hw rfl r

/-- A pending `to_output` in its direction, then a run. -/
theorem Reaches.toOutput {s u : State} {ls : List Task} (hr : running s = true)
    (hw : s.work = .call .toOutput :: ls) (hd : s.dir = .input)
    (r : Reaches (setDir .output { s with work := ls }) u) : Reaches s u :=
  .line hr hw (execToOutput_input hd) r

/-- A pending `to_input` in its direction, then a run. -/
theorem Reaches.toInput {s u : State} {ls : List Task} (hr : running s = true)
    (hw : s.work = .call .toInput :: ls) (hd : s.dir = .output)
    (r : Reaches (setDir .input { s with work := ls }) u) : Reaches s u :=
  .line hr hw (execToInput_output hd) r

/-- A pending `db_write` in its direction, then a run. -/
theorem Reaches.dbWrite {s u : State} {v : Byte} {ls : List Task} (hr : running s = true)
    (hw : s.work = .call (.dbWrite v) :: ls) (hd : s.dir = .output)
    (r : Reaches (setDQ (pinMap v) { s with work := ls, dreg := v }) u) : Reaches s u :=
  .line hr hw (execDbWrite_output v hd) r

/-- A pending `db_read` in its direction, then a run. -/
theorem Reaches.dbRead {s u : State} {ls : List Task} (hr : running s = true)
    (hw : s.work = .call .dbRead :: ls) (hd : s.dir = .input)
    (r : Reaches (emit (.sample (pinMap (lineByte s)))
      { s with work := ls, dreg := lineByte s, answers := s.answers.tail }) u) : Reaches s u :=
  .line hr hw (execDbRead_input hd) r

/-- A pending `Delay(T)`, from the call to its end, then a run (R68). -/
theorem Reaches.delay {s u : State} {t : Nat} {ls : List Task} (hr : running s = true)
    (hw : s.work = .call (.delay t) :: ls)
    (r : Reaches (emit (.delay t) { s with work := ls, tmr := 0 }) u) : Reaches s u :=
  .line hr hw rfl (.line (l := .delayEnd t) hr rfl rfl r)

end Sys2Proof.Machine
end

