-- ==== Sys2Proof/Tests/Slice0.lean ====
section
/-! SUPPORT. Tests: ill-formed terms refused, words of the encoding tables, one step each on small states (expected values
from `95_test_vectors.md` and the rules named), and a witness for the hypotheses of every statement that has some. -/

namespace Sys2Proof.Tests

open Sys2Proof.Machine

/-! ## Well-formedness: one ill-formed term for each check -/

theorem test_wf_refuses_mbc1_upper_zero : Instr.wf (.mbc1RomW2 0) = false := by decide
theorem test_wf_refuses_delay_zero : Instr.wf (.delay 0) = false := by decide
theorem test_wf_accepts : Instr.wf (.mbc1RomW2 3) = true ∧ Instr.wf (.delay 1) = true := by decide

/-! ## Words, bit by bit, of each format (R40-R53) -/

theorem test_decode_sync8 : decode .sync8 0b11001010 = .ok .sync ∧ decode .sync8 0b11001000 = .ok (.idleDiscardC8 0)
    ∧ decode .sync8 0b11001100 = .ok (.idleDiscardCC 0) := by decide
theorem test_decode_sync8_edges : decode .sync8 0b01111111 = .ok (.idleDiscard00 127)
    ∧ decode .sync8 0b10111111 = .ok (.idleDiscard80 63) ∧ decode .sync8 0b11111111 = .ok (.idleDiscardE0 31) := by decide
theorem test_decode_cmd8 : decode .cmd8 0b00000000 = .ok .dumpHdr ∧ decode .cmd8 0b00000001 = .ok .dumpRom
    ∧ decode .cmd8 0b00000010 = .ok .dumpRam ∧ decode .cmd8 0b00000100 = .ok .flashRam := by decide
theorem test_decode_cmd8_nops : decode .cmd8 0b00000011 = .ok .nop03 ∧ decode .cmd8 0b00000101 = .ok .nop05
    ∧ decode .cmd8 0b00000111 = .ok (.nop06 1) ∧ decode .cmd8 0b11001010 = .ok (.nop80 0x4A) := by decide
theorem test_decode_tx8 : decode .tx8 0b10101011 = .ok .ackChunk ∧ decode .tx8 0b10101010 = .ok .endBank
    ∧ decode .tx8 0b10101100 = .error .notAMarker := by decide
theorem test_decode_ram_gate : decode .ramGate24 0b000000000000000000001010 = .ok .enableRam
    ∧ decode .ramGate24 0 = .ok .disableRam ∧ decode .ramGate24 1 = .error .notARamGateWrite := by decide
theorem test_decode_mbc1_rom : decode (.romBank24 .mbc1) 0b001000000000000000011111 = .ok (.mbc1RomW1 31)
    ∧ decode (.romBank24 .mbc1) 0b010000000000000000000010 = .ok (.mbc1RomW2 2)
    ∧ decode (.romBank24 .mbc1) 0b010000000000000000000000 = .error .notARomBankWrite := by decide
theorem test_decode_mbc2_mbc3_rom : decode (.romBank24 .mbc2) 0b000000010000000000000011 = .ok (.mbc2Rom 3)
    ∧ decode (.romBank24 .mbc3) 0b001000000000000001111111 = .ok (.mbc3Rom 127)
    ∧ decode (.romBank24 .mbc3) 0b001000000000000010000000 = .error .notARomBankWrite := by decide
theorem test_decode_mbc5_rom : decode (.romBank24 .mbc5) 0b001100000000000000000001 = .ok (.mbc5RomW1 1)
    ∧ decode (.romBank24 .mbc5) 0b001000000000000000101100 = .ok (.mbc5RomW2 0x2C) := by decide
theorem test_decode_ram_bank : decode (.ramBank24 .mbc1) 0b010000000000000000000001 = .ok (.mbc1Ram 1)
    ∧ decode (.ramBank24 .mbc3) 0b010000000000000000000011 = .ok (.mbc3Ram 3)
    ∧ decode (.ramBank24 .mbc5) 0b010000000000000000001111 = .ok (.mbc5Ram 15)
    ∧ decode (.ramBank24 .mbc2) 0b010000000000000000000000 = .error .notARamBankWrite := by decide
theorem test_decode_bus_words : decode .shift16 0b0100000000000000 = .ok (.setAddress 0x4000)
    ∧ decode .shift1 0b1 = .ok (.shiftBit true) ∧ decode .dbus8 0b10100101 = .ok (.dbWrite 0xA5)
    ∧ decode .busrd16 0b0000000101000111 = .ok (.readByte 0x0147)
    ∧ decode .buswr24 0b001000000000000000000001 = .ok (.writeByte 0x2000 0x01) := by decide
theorem test_decode_ctype8 : decode .ctype8 0b00000011 = .ok .ctype03Mbc1 ∧ decode .ctype8 0b00000100 = .ok .ctypeInvalid04
    ∧ decode .ctype8 0b00010011 = .ok .ctype13Mbc3 ∧ decode .ctype8 0b00010100 = .ok (.ctypeInvalid14 0)
    ∧ decode .ctype8 0b00100000 = .ok (.ctypeInvalid20 0) := by decide
theorem test_decode_sizes : decode .romsz8 0b00001000 = .ok .romsz08 ∧ decode .romsz8 0b00001001 = .ok .romszInvalid09
    ∧ decode .ramsz8 0b00000100 = .ok .ramsz04 ∧ decode .ramsz8 0b00000110 = .ok (.ramszInvalid06 0) := by decide
theorem test_decode_too_wide : decode .cmd8 256 = .error .tooWide ∧ decode .shift1 2 = .error .tooWide := by decide
theorem test_table_word : decodeTableWord 24 0x200001 = some (.mbc1RomW1 1) ∧ decodeTableWord 8 0xCA = some .sync
    ∧ decodeTableWord 16 0x4000 = some (.setAddress 0x4000) ∧ decodeTableWord 24 0x123456 = some (.writeByte 0x1234 0x56) := by
  decide

/-! ## Small states -/

/-- Between operations, header decoded as MBC5 with 2 ROM banks and 1 RAM bank. -/
def idleState : State := { State.reset with fsm := .idle, variant := .mbc5, romBanks := 2, ramBanks := 1 }

/-- The same inside a write, the lines driven. -/
def drivenState : State := { idleState with dir := .output }

/-- Received bytes waiting. -/
def withRx (bs : List Byte) (s : State) : State := { s with rx := bs }

/-! ## The data bus: the pin map (R46, R61, R62) -/

theorem test_pin_map : pinMap 0x0A = 0b01010000#8 ∧ pinMap 0x01 = 0b10000000#8 ∧ pinMap 0x80 = 0b00000001#8
    ∧ pinMap 0xA5 = 0xA5#8 := by decide
theorem test_db_write : exec (.dbWrite 0x01) drivenState
    = .next { drivenState with dreg := 0x01, dqOut := 0b10000000#8, trace := [.setDQ 0b10000000#8] } := rfl
theorem test_db_read : exec .dbRead { idleState with answers := [0x13] }
    = .next { idleState with dreg := 0x13, answers := [], trace := [.sample (pinMap 0x13)] } := rfl
theorem test_wrong_direction : exec .dbRead drivenState = .refused .wrongDirection
    ∧ exec (.dbWrite 0) idleState = .refused .wrongDirection ∧ exec .toInput idleState = .refused .wrongDirection
    ∧ exec .toOutput drivenState = .refused .wrongDirection := ⟨rfl, rfl, rfl, rfl⟩

/-! ## The external register (R57) -/

theorem test_shift_in : shiftIn true 0x0000 = 0x8000 ∧ shiftIn false 0x8001 = 0x4000 := by decide
theorem test_latch_commits : (setPin .srLatch true { idleState with srLatch := false, extQ := 0x4000 }).extA = 0x4000 := rfl
theorem test_latch_level_holds : (setPin .srLatch true { idleState with extQ := 0x4000 }).extA = idleState.extA := rfl

/-! ## Operands (R49, R52, R67, R77, R83, R98) -/

theorem test_mbc1_fields : mbc1Low 0x1FF = 0x1F ∧ mbc1High 0x1FF = 1 ∧ mbc1Low 0x21 = 1 ∧ mbc1High 0x400 = 0 := by decide
theorem test_other_fields : mbc5High 300 = 1 ∧ mbc5Low 300 = 0x2C ∧ mbc2Low 0x13 = 3 ∧ mbc3Low 0x85 = 5
    ∧ ramLow2 7 = 3 ∧ ramLow4 0x1F = 15 := by decide
theorem test_addresses : blkBase 0x4000 31 = 0x7E00 ∧ blkBase 0xA000 15 = 0xBE00 ∧ chunkAddr 255 31 = 0xBFFF
    ∧ blockAddr 0xFFFF 1 = 0 := by decide
theorem test_ticks : ticks 2000000 1000000 = 2000 ∧ ticks 2000000 1001 = 3 := by decide
theorem test_rom_banks : romBanksOf 0 = 2 ∧ romBanksOf 8 = 512 := by decide

/-! ## One step each -/

theorem test_reset_runs_init : step State.reset = exec .init State.reset := rfl
theorem test_idle_takes_sync : exec .idle (withRx [0xCA, 0x00] idleState)
    = .next { idleState with rx := [0x00], work := [.call .sync], trace := [.rx 0xCA] } := rfl
theorem test_dispatch_takes_command : exec .dispatch (withRx [0x04] { idleState with fsm := .dispatch })
    = .next { idleState with rx := [], cmd := 0x04, fsm := .exec, work := [.call .flashRam], trace := [.rx 0x04] } := rfl
theorem test_idle_waits : exec .idle idleState = .fault .serialReadWait := rfl
theorem test_mbc5_order : exec (.selectRomBank 300) idleState
    = .next { idleState with work := [.call (.mbc5RomW1 1), .call (.mbc5RomW2 0x2C)] } := rfl
theorem test_mbc1_one_write : exec (.selectRomBank 0x21) { idleState with variant := .mbc1 }
    = .next { idleState with variant := .mbc1, work := [.call (.mbc1RomW1 1)] } := rfl
theorem test_ramsz_not_monotonic : exec .ramsz04 idleState = .next { idleState with ramBanks := 16 }
    ∧ exec .ramsz05 idleState = .next { idleState with ramBanks := 8 } := ⟨rfl, rfl⟩
theorem test_unsupported : exec (.mbc2Ram 0) { idleState with work := [.ramBank] }
    = .next { idleState with fault := true, faultCode := 1, fsm := .fault, work := [], trace := [.fault 1] } := rfl
theorem test_stopped : step { idleState with fsm := .fault } = .fault .stopped := rfl
theorem test_reset_leaves_fault : step { takeFault .unknownRamSize idleState with rst := true }
    = .next (resetBlock (takeFault .unknownRamSize idleState)) := rfl
theorem test_mid_run_reset : step { drivenState with rst := true, work := [.call .toInput] } = .refused .midRunReset := rfl
theorem test_marker : exec .ackChunk idleState = .next { idleState with tx := [0xAB], trace := [.tx 0xAB] } := rfl
theorem test_first_write_line : step (State.reset.withFetchWord 24 0x123456) = exec (.writeByte 0x1234 0x56) State.reset := rfl
theorem test_memory_canonical : Memory.write (Memory.write [] 3 7) 3 0 = [] ∧ Memory.write [(3, 7)] 1 2 = [(1, 2), (3, 7)] := by
  decide

/-! ## Witnesses: concrete states and operands that meet a statement's hypotheses, all of them together -/

theorem test_witness_parameters_constant : step { idleState with work := [.nextWrite] } =
    .next { idleState with idx := 1, work := [.writeChunk] } := rfl
theorem test_witness_reset_instruction : resettable { idleState with rst := true } = true
    ∧ resettable { drivenState with work := [.call .toInput] } = false := by decide
theorem test_witness_step_runs_line : ({ idleState with rst := true } : State).rst = true
    ∧ (takeFault .unknownRamSize idleState).rst = false ∧ (takeFault .unknownRamSize idleState).fsm = .fault
    ∧ running { idleState with work := [.call .sync] } = true
    ∧ running idleState = true ∧ idleState.work = [] ∧ idleState.fsm = .idle := by decide
theorem test_witness_step_control : running State.reset = true ∧ State.reset.fsm = .init
    ∧ running { idleState with fsm := .dispatch } = true ∧ running { idleState with fsm := .exec } = true := by decide
theorem test_witness_step_decoded : running idleState = true ∧ decodeTableWord 8 0xCA = some .sync := by decide
theorem test_witness_only_reset_ends_fault : (takeFault .unknownRamSize { idleState with rst := true }).fsm = .fault
    ∧ step (takeFault .unknownRamSize { idleState with rst := true }) = .next (resetBlock (takeFault .unknownRamSize idleState)) :=
  ⟨rfl, rfl⟩
theorem test_witness_serial_read_wait : step idleState = .fault .serialReadWait ∧ idleState.rx = [] := ⟨rfl, rfl⟩
theorem test_witness_serial_write_wait : step { idleState with txReady := false, work := [.call .endBank] }
    = .fault .serialWriteWait := rfl
theorem test_witness_waiting : running { idleState with work := [.recvByte] } = true
    ∧ waiting { idleState with work := [.recvByte] } = true := by decide
theorem test_witness_decode_encode : Instr.wf (.mbc1RomW2 3) = true
    ∧ encode (.mbc1RomW2 3) = some (.romBank24 .mbc1, 0x400003) := by decide
theorem test_witness_encode_decode : decode (.romBank24 .mbc1) 0x400003 = .ok (.mbc1RomW2 3) := by decide
theorem test_witness_no_op : (3 : Byte) ≠ 0x00 ∧ (3 : Byte) ≠ 0x01 ∧ (3 : Byte) ≠ 0x02 ∧ (3 : Byte) ≠ 0x04
    ∧ (0xCA : Byte) ≠ 0x04 := by decide
theorem test_witness_ctype_edges : decodeCtype8 0x03 = .ctype03Mbc1 ∧ decodeCtype8 0x04 = .ctypeInvalid04
    ∧ decodeCtype8 0x06 = .ctype06Mbc2 ∧ decodeCtype8 0x0E = .ctypeInvalid0E ∧ decodeCtype8 0x0F = .ctype0FMbc3
    ∧ decodeCtype8 0x18 = .ctypeInvalid18 ∧ decodeCtype8 0x1E = .ctype1EMbc5 ∧ decodeCtype8 0x1F = .ctypeInvalid1F := by decide
theorem test_witness_size_edges : decodeRomsz8 8 = .romsz08 ∧ decodeRomsz8 9 = .romszInvalid09
    ∧ decodeRamsz8 5 = .ramsz05 ∧ decodeRamsz8 6 = .ramszInvalid06 0 := by decide
theorem test_witness_markers_sent : idleState.txReady = true := rfl
theorem test_witness_direction : idleState.dir = .input ∧ drivenState.dir = .output := ⟨rfl, rfl⟩
theorem test_witness_data_bus_read : ({ idleState with answers := [0x13] } : State).dir = .input
    ∧ ({ idleState with answers := [0x13] } : State).answers = 0x13 :: [] := ⟨rfl, rfl⟩
theorem test_witness_external_register :
    step { idleState with srLatch := false, work := [.set .srLatch true] } =
      .next { idleState with srLatch := true, extA := idleState.extQ, trace := [.set .srLatch true] } := rfl
/-- The hypotheses of the statements about the bus operations, the header and the commands. -/
theorem test_witness_bus_operations : running idleState = true ∧ idleState.srClk = false ∧ idleState.dir = .input
    ∧ idleState.txReady = true ∧ memoriesCanonical idleState = true ∧ idleState.fault = false := by decide
theorem test_witness_block_holds_answers :
    (List.replicate 512 (0x5A : Byte)).length = 512
    ∧ ({ idleState with answers := List.replicate 512 0x5A ++ [1] } : State).answers = List.replicate 512 0x5A ++ [1]
    ∧ memoriesCanonical { idleState with answers := List.replicate 512 0x5A ++ [1] } = true :=
  ⟨List.length_replicate, rfl, rfl⟩
theorem test_witness_idle_scan : (withRx [0xCA] idleState).rx = 0xCA :: [] ∧ running (withRx [0xCA] idleState) = true :=
  ⟨rfl, rfl⟩
theorem test_witness_no_op_frame : (withRx [0xCA, 0xCA, 0x00] idleState).rx = 0xCA :: 0xCA :: [0x00]
    ∧ (withRx [0xCA, 0xCA, 0x00] idleState).work = [] ∧ (withRx [0xCA, 0xCA, 0x00] idleState).fsm = .idle
    ∧ running (withRx [0xCA, 0xCA, 0x00] idleState) = true := ⟨rfl, rfl, rfl, rfl⟩
theorem test_witness_dump_rom : idleState.variant ≠ .romOnly ∧ idleState.romBanks.toNat = 2 := by decide
theorem test_witness_dump_rom_sends : (List.replicate 32768 (0x5A : Byte)).length = idleState.romBanks.toNat * 16384 :=
  List.length_replicate
theorem test_witness_dump_rom_rom_only : running { idleState with variant := .romOnly } = true
    ∧ 2 ≤ ({ idleState with variant := .romOnly } : State).romBanks.toNat := by decide
theorem test_witness_ram_commands : hasRamBanks idleState.variant = true ∧ idleState.ramBanks ≠ 0
    ∧ ({ idleState with variant := .romOnly, ramBanks := 0 } : State).ramBanks = 0 := by decide
theorem test_witness_flash_payload :
    idleState.ramBanks.toNat * 8192 ≤ (withRx (List.replicate 8192 0x5A) idleState).rx.length :=
  Nat.le_of_eq (List.length_replicate (n := 8192) (a := (0x5A : Byte))).symm
theorem test_witness_ram_commands_unsupported : hasRamBanks .mbc2 = false ∧ hasRamBanks .romOnly = false
    ∧ idleState.ramBanks ≠ 0 ∧ running { idleState with variant := .mbc2 } = true := by decide
theorem test_witness_bus_discipline_inside_write :
    busDiscipline { drivenState with wrN := false, work := [.set .wrN true, .call (.dbWrite 0), .call .toInput] } = true := by
  decide
theorem test_witness_bus_discipline_step :
    step { drivenState with wrN := false, work := [.set .wrN true, .call (.dbWrite 0), .call .toInput] } =
      .next { drivenState with trace := [.set .wrN true], work := [.call (.dbWrite 0), .call .toInput] } := rfl
theorem test_witness_discipline_refuses_contention : busDiscipline { drivenState with rdN := false } = false := by decide
theorem test_witness_stops_with_bus_idle : busDiscipline idleState = true ∧ busIdle idleState = true := by decide
theorem test_witness_session_sealed : sessionSealed { idleState with work := [.call .dumpRom] } = true
    ∧ idleState.fsm ≠ .init ∧ idleState.rst = false
    ∧ sessionSealed { idleState with work := [.call .decodeHeader] } = false := by decide
theorem test_witness_session_in_init :
    sessionSealed { State.reset with work := [.copyHdr, .call .decodeHeader, .toIdle] } = true := by decide
theorem test_witness_fault_registers : faultRegistersAgree idleState = true
    ∧ faultRegistersAgree (takeFault .romSizeOutOfRange idleState) = true
    ∧ faultRegistersAgree { idleState with fault := true } = false := by decide
theorem test_witness_memories : memoriesCanonical { idleState with buf := [(3, 7), (4, 1)] } = true
    ∧ memoriesCanonical { idleState with buf := [(4, 7), (3, 1)] } = false := by decide

end Sys2Proof.Tests
end

/-! PROOFS of the scope's statements (`00_scope.md`: R6, R7). What a step does to the part of the state that is no register
of the block is said once, as the relation `Surroundings.Next`; both statements are read off it. -/

namespace Sys2Proof.Machine

/-- The part of the state that lies outside the block's registers and position: the open parameters, the transport, the
environment's answers and the history. -/
structure Surroundings where
  /-- the open parameters (R6) -/
  cfg : Config.Params
  /-- the host's bytes (R22) -/
  rx : List Byte
  /-- the bytes sent (R22) -/
  tx : List Byte
  /-- the transport accepts a byte -/
  txReady : Bool
  /-- the queued answers (R33) -/
  answers : List Byte
  /-- the history (R7) -/
  trace : List Event

/-- The surroundings a state stands in. -/
def State.surroundings (s : State) : Surroundings where
  cfg := s.cfg
  rx := s.rx
  tx := s.tx
  txReady := s.txReady
  answers := s.answers
  trace := s.trace

/-- The event takes nothing from a queue and adds nothing to one. -/
def leavesQueues : Event → Bool
  | .rx _ | .tx _ | .sample _ => false
  | _ => true

/-- What one step can do to the surroundings: nothing, or one event with the queue change that belongs to it (R7, R38). -/
inductive Surroundings.Next (o : Surroundings) : Surroundings → Prop where
  | silent : o.Next o
  | event (e : Event) (he : leavesQueues e = true) : o.Next { o with trace := e :: o.trace }
  | received (b : Byte) (rest : List Byte) (hrx : o.rx = b :: rest) :
      o.Next { o with rx := rest, trace := .rx b :: o.trace }
  | sent (b : Byte) (hready : o.txReady = true) : o.Next { o with tx := o.tx ++ [b], trace := .tx b :: o.trace }
  | sampled (v : BitVec 8) : o.Next { o with answers := o.answers.tail, trace := .sample v :: o.trace }

/-- The answer `r`, if it is a next state, does to the surroundings of `s` what one step can do. -/
def Regular (s : State) (r : Out) : Prop := ∀ t, r = .next t → s.surroundings.Next t.surroundings

/-! ## The shared operations -/

theorem regular_next {s t : State} (h : s.surroundings.Next t.surroundings) : Regular s (.next t) := by
  rintro _ ⟨⟩
  exact h

/-- A line that changes only the block's registers and its position. -/
theorem regular_silent {s t : State} (h : t.surroundings = s.surroundings) : Regular s (.next t) :=
  regular_next (h ▸ .silent)

theorem regular_fault (s : State) (r : Fault) : Regular s (.fault r) := by
  intro t h
  cases h

theorem regular_refused (s : State) (r : Refusal) : Regular s (.refused r) := by
  intro t h
  cases h

theorem regular_ite {s : State} {c : Prop} [Decidable c] {r r' : Out} (h : Regular s r) (h' : Regular s r') :
    Regular s (if c then r else r') := by
  split
  · exact h
  · exact h'

/-- A line runs in a state with a position of its own; the surroundings are those of the state it is run for. -/
theorem Regular.of_surroundings {s u : State} {r : Out} (hr : Regular u r) (h : u.surroundings = s.surroundings) :
    Regular s r :=
  fun t ht => h ▸ hr t ht

/-- Raising a fault is one event (R103). -/
theorem regular_takeFault (c : FaultCode) (s : State) : Regular s (.next (takeFault c s)) :=
  regular_next (.event (.fault (faultNumber c)) rfl)

theorem surroundings_setPin (p : Pin) (b : Bool) (s : State) :
    (setPin p b s).surroundings = { s.surroundings with trace := .set p b :: s.trace } := by
  cases p <;> rfl

theorem regular_lineSet (p : Pin) (b : Bool) (s : State) : Regular s (lineSet p b s) :=
  regular_next (surroundings_setPin p b s ▸ .event (.set p b) rfl)

/-- A `SerRead` takes the head of `rx` in its one event, whatever the registers do with the byte (R7, R38). -/
theorem regular_serRead {s : State} {k : Byte → State → State} (hk : ∀ b u, (k b u).surroundings = u.surroundings) :
    Regular s (serRead s k) := by
  intro t h
  obtain ⟨b, rest, hrx, rfl⟩ := serRead_eq_next h
  rw [hk]
  exact .received b rest hrx

/-- A `SerWrite` appends its byte to `tx` in its one event, and only while the transport accepts (R7, R38). -/
theorem regular_serWrite {s : State} {b : Byte} {k : State → State} (hk : ∀ u, (k u).surroundings = u.surroundings) :
    Regular s (serWrite b s k) := by
  intro t h
  obtain ⟨hready, rfl⟩ := serWrite_eq_next h
  rw [hk]
  exact .sent b hready

/-- The record's copy; simplified first, as a plain `rfl` would evaluate the 64 memory writes. -/
theorem regular_lineCopyHdr (s : State) : Regular s (lineCopyHdr s) :=
  regular_silent (by simp only [State.surroundings])

/-! ## The lines that read or write the serial streams -/

theorem regular_execIdle (s : State) : Regular s (execIdle s) := by
  unfold execIdle
  exact regular_serRead fun _ _ => rfl

theorem regular_execDispatch (s : State) : Regular s (execDispatch s) := by
  unfold execDispatch
  exact regular_serRead fun _ _ => rfl

theorem regular_lineSendHdr (s : State) : Regular s (lineSendHdr s) := by
  unfold lineSendHdr
  refine regular_serWrite fun u => ?_
  split <;> rfl

theorem regular_lineSendBuf (s : State) : Regular s (lineSendBuf s) := by
  unfold lineSendBuf
  refine regular_serWrite fun u => ?_
  split <;> rfl

theorem regular_lineRecvByte (s : State) : Regular s (lineRecvByte s) := by
  unfold lineRecvByte
  refine regular_serRead fun _ u => ?_
  dsimp only
  split <;> rfl

/-! ## Every line -/

/-- Every operation of the opcode table: the fault rows, the data bus, the serial rows and the reset each in their way; every
other row only enters its lines or writes registers. -/
theorem regular_exec (i : Instr) (s : State) : Regular s (exec i s) := by
  cases i with
  | ackChunk | endBank => exact regular_serWrite fun _ => rfl
  | idle => exact regular_execIdle s
  | dispatch => exact regular_execDispatch s
  | dbWrite v => exact regular_ite (regular_next (.event (.setDQ (pinMap v)) rfl)) (regular_refused s _)
  | dbRead => exact regular_ite (regular_next (.sampled (pinMap (lineByte s)))) (regular_refused s _)
  | toOutput => exact regular_ite (regular_next (.event (.setDir .output) rfl)) (regular_refused s _)
  | toInput => exact regular_ite (regular_next (.event (.setDir .input) rfl)) (regular_refused s _)
  | mbc1RomW2 => exact regular_ite (regular_silent rfl) (regular_silent rfl)
  | reset => exact regular_ite (regular_silent rfl) (regular_refused s _)
  | raiseFault c => exact regular_takeFault c s
  | romOnlyRom | romOnlyRam | mbc2Ram => exact regular_takeFault .unsupportedOperation s
  | ctypeInvalid04 | ctypeInvalid07 | ctypeInvalid08 | ctypeInvalid0C | ctypeInvalid0E | ctypeInvalid14
  | ctypeInvalid18 | ctypeInvalid1F | ctypeInvalid20 | ctypeInvalid40 | ctypeInvalid80 =>
    exact regular_takeFault .unknownCartridgeType s
  | romszInvalid09 | romszInvalid0A | romszInvalid0C | romszInvalid10 | romszInvalid20 | romszInvalid40
  | romszInvalid80 => exact regular_takeFault .romSizeOutOfRange s
  | ramszInvalid06 | ramszInvalid08 | ramszInvalid10 | ramszInvalid20 | ramszInvalid40 | ramszInvalid80 =>
    exact regular_takeFault .unknownRamSize s
  | _ => exact regular_silent rfl

/-- Every pending line: a call, a pin write, the end of a delay and the serial lines make their event; the loop lines test
their counter and make none. -/
theorem regular_runLine (l : Task) (s : State) : Regular s (runLine l s) := by
  cases l with
  | call i => exact regular_exec i s
  | set p b => exact regular_lineSet p b s
  | delayEnd d => exact regular_next (.event (.delay d) rfl)
  | copyHdr => exact regular_lineCopyHdr s
  | sendHdr => exact regular_lineSendHdr s
  | sendBuf => exact regular_lineSendBuf s
  | recvByte => exact regular_lineRecvByte s
  | nextBit | storeByte | romBank | nextRomBank | nextBlk | ramBank | nextRamBank | flashBank | nextFlashBank
  | nextChunk | nextWrite => exact regular_ite (regular_silent rfl) (regular_silent rfl)
  | _ => exact regular_silent rfl

theorem regular_runControl (s : State) : Regular s (runControl s) := by
  unfold runControl
  cases s.fsm with
  | init => exact regular_exec .init s
  | idle => exact regular_exec .idle s
  | dispatch => exact regular_exec .dispatch s
  | exec => exact regular_silent rfl
  | fault => exact regular_fault s .stopped

theorem regular_runBlock (s : State) : Regular s (runBlock s) := by
  refine regular_ite (regular_fault s .stopped) ?_
  cases s.work with
  | nil => exact regular_runControl s
  | cons l ls => exact (regular_runLine l _).of_surroundings rfl

/-- What a step that answers does to the surroundings. -/
theorem step_surroundings {s t : State} (h : step s = .next t) : s.surroundings.Next t.surroundings :=
  regular_ite (regular_exec .reset s) (regular_runBlock s) t h

/-! ## The statements -/

theorem Surroundings.Next.cfg_eq {o o' : Surroundings} (h : o.Next o') : o'.cfg = o.cfg := by
  cases h <;> rfl

/-- Whatever was drawn, the parameters in use meet R6's constraints. -/
theorem params_wf : Config.params.wf = true := by
  unfold Config.params
  split
  · assumption
  · decide

/-- Settles O2: the choice at reset is guarded by R6's constraints, and none of the things a step can do to the surroundings
touches the parameters. -/
theorem parametersConstant : Obligations.ParametersConstant :=
  ⟨params_wf, fun _ _ h => (step_surroundings h).cfg_eq⟩

/-- Settles O59, by the five things a step can do to the surroundings. -/
theorem stepEvents : Obligations.StepEvents := by
  intro s t h
  have hnext := step_surroundings h
  generalize ho : t.surroundings = o at hnext
  cases hnext <;> obtain ⟨-, hrx, htx, -, hanswers, htrace⟩ := Surroundings.mk.inj ho
  case silent => exact .inl ⟨htrace, hrx, htx, hanswers⟩
  case received b rest hhead => exact .inr ⟨.rx b, htrace, hhead.trans (hrx ▸ rfl), htx, hanswers⟩
  case sent b hready => exact .inr ⟨.tx b, htrace, hrx, ⟨htx, hready⟩, hanswers⟩
  case sampled v => exact .inr ⟨.sample v, htrace, hrx, htx, hanswers⟩
  case event e he =>
    cases e with
    | rx | tx | sample => cases he
    | _ => exact .inr ⟨_, htrace, hrx, htx, hanswers⟩

end Sys2Proof.Machine

/-! PROOFS of the state's statements (`10_state.md`: R17, R25): what a step runs, by reset, `FAULT` and the position. -/

namespace Sys2Proof.Machine

/-- Settles O1: the values are those `State.reset` lists, and the bus among them is the idle one (R70). -/
theorem resetState : Obligations.ResetState :=
  ⟨rfl, rfl, rfl, rfl, rfl, rfl, rfl, rfl, rfl, rfl, rfl, (busIdle_iff _).mpr rfl⟩

/-- A block runs with `RST` released and outside `FAULT`. -/
theorem running_iff {s : State} : running s = true ↔ s.rst = false ∧ s.fsm ≠ .fault := by
  simp [running]

/-- While `RST` is asserted a step is the reset, whatever is pending (R114). -/
theorem step_of_rst {s : State} (h : s.rst = true) : step s = exec .reset s := if_pos h

/-- Nothing runs in `FAULT`, whatever is pending (R103). -/
theorem step_of_fault {s : State} (hrst : s.rst = false) (hfsm : s.fsm = .fault) : step s = .fault .stopped := by
  simp [step, runBlock, hrst, hfsm]

/-- A pending operation is what a running block's step runs, with its line taken off. -/
theorem step_call {s : State} {i : Instr} {ls : List Task} (hr : running s = true) (hw : s.work = .call i :: ls) :
    step s = exec i { s with work := ls } :=
  step_line hr hw

/-- In a running block, putting a word's operation where the next one stands changes the position alone. -/
theorem withFetchWord_of_running {s : State} {n w : Nat} {i : Instr} (hr : running s = true)
    (hi : decodeTableWord n w = some i) : s.withFetchWord n w = { s with work := .call i :: s.work } := by
  obtain ⟨hrst, hfsm⟩ := running_iff.mp hr
  simp [State.withFetchWord, hi, hrst, hfsm]

/-- A word's operation is what the next step runs, on the state as it was. -/
theorem step_withFetchWord {s : State} {n w : Nat} {i : Instr} (hr : running s = true)
    (hi : decodeTableWord n w = some i) : step (s.withFetchWord n w) = exec i s := by
  rw [withFetchWord_of_running hr hi]
  exact step_call (s := { s with work := .call i :: s.work }) hr rfl

/-- Settles O4, one clause per thing that decides what runs: `RST`, `FAULT`, the first pending line, and with none the
control state. -/
theorem stepRunsNextLine : Obligations.StepRunsNextLine := by
  refine ⟨fun _ => step_of_rst, fun _ => step_of_fault, fun _ _ _ => step_call, ?init, ?idle, ?dispatch, ?exec,
    fun _ _ _ _ => step_withFetchWord⟩
  all_goals
    intro s hr hw hf
    rw [step_control hr hw, runControl, hf]
  case exec => rfl

end Sys2Proof.Machine

/-! PROOFS of the encoding's statements (`30_encoding.md`: R51, R52, R53): what the row of a header byte does. The accepted
codes are gone through one by one; for every other code the row is a decode failure, whichever mask the byte matches. -/

namespace Sys2Proof.Machine

/-- Where both rows do the same, it does not matter which of them the byte matches. -/
theorem exec_ite {p : Prop} [Decidable p] {i j : Instr} {s : State} {r : Out} (hi : exec i s = r) (hj : exec j s = r) :
    exec (if p then i else j) s = r := by
  split
  · exact hi
  · exact hj

/-! ## The cartridge type -/

/-- The `cartridge_type` codes of each variant (R51). -/
def typeCodes : Variant → List Byte
  | .romOnly => [0x00]
  | .mbc1 => [0x01, 0x02, 0x03]
  | .mbc2 => [0x05, 0x06]
  | .mbc3 => [0x0F, 0x10, 0x11, 0x12, 0x13]
  | .mbc5 => [0x19, 0x1A, 0x1B, 0x1C, 0x1D, 0x1E]

/-- R51's ranges of `cartridge_type`. -/
def inTypeRange (t : Byte) : Variant → Prop
  | .romOnly => t = 0x00
  | .mbc1 => 0x01 ≤ t ∧ t ≤ 0x03
  | .mbc2 => 0x05 ≤ t ∧ t ≤ 0x06
  | .mbc3 => 0x0F ≤ t ∧ t ≤ 0x13
  | .mbc5 => 0x19 ≤ t ∧ t ≤ 0x1E

theorem mem_typeCodes {t : Byte} {k : Variant} : t ∈ typeCodes k ↔ inTypeRange t k := by
  cases k <;> simp only [typeCodes, inTypeRange, List.mem_cons, List.not_mem_nil, or_false] <;> bv_omega

/-- The row of a listed code sets the variant it is listed for (R51, R87). -/
theorem exec_decodeCtype8_of_mem {k : Variant} {t : Byte} (h : t ∈ typeCodes k) (s : State) :
    exec (decodeCtype8 t) s = .next { s with variant := k } := by
  cases k <;> fin_cases h <;> rfl

/-- With the listed codes ruled out, every row that is left is a decode failure (R51, R87). -/
theorem exec_decodeCtype8_of_not_mem {t : Byte} (h : ∀ k, t ∉ typeCodes k) (s : State) :
    exec (decodeCtype8 t) s = .next (takeFault .unknownCartridgeType s) := by
  have h0 := h .romOnly
  have h1 := h .mbc1
  have h2 := h .mbc2
  have h3 := h .mbc3
  have h5 := h .mbc5
  simp only [typeCodes, List.mem_cons, List.not_mem_nil, or_false, not_or] at h0 h1 h2 h3 h5
  simp only [decodeCtype8, h0, h1, h2, h3, h5, if_false]
  repeat' apply exec_ite
  all_goals rfl

/-- Settles O11: each range holds the codes listed for its variant. -/
theorem cartridgeTypeRows : Obligations.CartridgeTypeRows := by
  intro t s
  split_ifs with h0 h1 h2 h3 h5
  case neg =>
    refine exec_decodeCtype8_of_not_mem (fun k hk => ?_) s
    replace hk := mem_typeCodes.mp hk
    cases k
    exacts [h0 hk, h1 hk, h2 hk, h3 hk, h5 hk]
  all_goals exact exec_decodeCtype8_of_mem (mem_typeCodes.mpr ‹_›) s

/-! ## The ROM size -/

/-- The `rom_size` codes R52 takes as its domain. -/
def romSizeCodes : List Byte := [0, 1, 2, 3, 4, 5, 6, 7, 8]

theorem mem_romSizeCodes {c : Byte} : c ∈ romSizeCodes ↔ c ≤ 8 := by
  simp only [romSizeCodes, List.mem_cons, List.not_mem_nil, or_false]
  bv_omega

/-- The row of a code up to 8 sets the number of banks computed from it (R52, R88). -/
theorem exec_decodeRomsz8_of_le {c : Byte} (h : c ≤ 8) (s : State) :
    exec (decodeRomsz8 c) s = .next { s with romBanks := romBanksOf c.toNat } := by
  have hc : c ∈ romSizeCodes := mem_romSizeCodes.mpr h
  fin_cases hc <;> rfl

/-- Up to code 8 the number of banks fits `rom_banks` (R16, R52). -/
theorem toNat_romBanksOf {n : Nat} (h : n ≤ 8) : (romBanksOf n).toNat = 2 <<< n := by
  interval_cases n <;> rfl

/-- Every row past code 8 is a decode failure (R52, R88). -/
theorem exec_decodeRomsz8_of_not_le {c : Byte} (h : ¬ c ≤ 8) (s : State) :
    exec (decodeRomsz8 c) s = .next (takeFault .romSizeOutOfRange s) := by
  simp only [← mem_romSizeCodes, romSizeCodes, List.mem_cons, List.not_mem_nil, or_false, not_or] at h
  simp only [decodeRomsz8, h, if_false]
  repeat' apply exec_ite
  all_goals rfl

/-- Settles O12, on either side of code 8. -/
theorem romSizeRows : Obligations.RomSizeRows := by
  intro c s
  split
  next h => exact ⟨romBanksOf c.toNat, exec_decodeRomsz8_of_le h s, toNat_romBanksOf h⟩
  next h => exact exec_decodeRomsz8_of_not_le h s

/-! ## The RAM size -/

/-- Settles O13: the six listed codes one by one; with them ruled out every row that is left is a decode failure. -/
theorem ramSizeRows : Obligations.RamSizeRows := by
  intro r s
  split_ifs with h01 h2 h3 h4 h5
  case pos => obtain rfl | rfl := h01 <;> rfl
  case neg =>
    obtain ⟨h0, h1⟩ := not_or.mp h01
    simp only [decodeRamsz8, h0, h1, h2, h3, h4, h5, if_false]
    repeat' apply exec_ite
    all_goals rfl
  all_goals subst r; rfl

end Sys2Proof.Machine

/-! PROOFS of the address shifter's statements (`40_address_shifter.md`: R55, R56, R57). The loop of `set_address` is gone
through bit by bit, with the state after each turn in closed form. For the external register, each line either leaves the
wires alone, or is one pin write, or is a reset, which the block takes only with the bus idle. -/

namespace Sys2Proof.Machine

/-! ## One bit -/

/-- After `shift_bit(b)` (R56, R57). -/
def afterShiftBit (b : Bool) (s : State) : State :=
  { s with
    srData := b, srClk := false, extQ := if s.srClk then s.extQ else shiftIn b s.extQ,
    trace := .set .srClk false :: .set .srClk true :: .set .srData b :: s.trace }

/-- The three pin writes, whichever level the clock had before them. -/
theorem completes_shiftBit (b : Bool) {s : State} (hr : running s = true) :
    Completes (.shiftBit b) s (afterShiftBit b s) := by
  refine ⟨_, rfl, .setPin hr rfl (.setPin hr rfl (.setPin hr rfl (.of_eq ?_)))⟩
  cases hclk : s.srClk <;> simp [afterShiftBit, emit, hclk]

/-- Settles O25: `afterShiftBit` is the state the statement writes out. -/
theorem shiftBit : Obligations.ShiftBit :=
  fun _ b hr => completes_shiftBit b hr

/-! ## The sixteen bits of an address -/

/-- The events of the first `n` turns of `set_address`'s loop (R55). -/
def bitEvents (a : Half) (n : Nat) : List Event :=
  (List.range n).flatMap fun k => [.set .srData (a.getLsbD k), .set .srClk true, .set .srClk false]

/-- After the turns of `set_address`'s loop for bit 0 to bit `n` of `areg`, from a low clock (R55, R57). -/
def afterBits (n : Nat) (s : State) : State :=
  { s with
    bitn := BitVec.ofNat 4 n, srData := s.areg.getLsbD n, srClk := false,
    extQ := (List.range (n + 1)).foldl (fun q k => shiftIn (s.areg.getLsbD k) q) s.extQ,
    trace := happened (bitEvents s.areg (n + 1)) s }

theorem afterShiftBit_zero {s : State} (hclk : s.srClk = false) :
    afterShiftBit (s.areg.getLsbD 0) { s with bitn := 0 } = afterBits 0 s := by
  simp [afterShiftBit, afterBits, bitEvents, happened, hclk]

theorem afterShiftBit_afterBits (n : Nat) (s : State) :
    afterShiftBit (s.areg.getLsbD (n + 1)) { afterBits n s with bitn := BitVec.ofNat 4 (n + 1) } =
      afterBits (n + 1) s := by
  simp [afterShiftBit, afterBits, bitEvents, happened, List.range_succ (n := n + 1)]

/-- One turn of the loop, from the entry of its lines to the end of the turn. -/
theorem reaches_bit {s : State} (hr : running s = true) :
    Reaches (enter (bitLines s) s)
      { afterShiftBit (s.areg.getLsbD s.bitn.toNat) s with work := .nextBit :: s.work } :=
  .call hr rfl (completes_shiftBit _ hr) (.refl _)

/-- Before bit 15 the end of a turn enters the next one (R55). -/
theorem lineNextBit_of_lt {s : State} {n : Nat} (hn : n < 15) (hb : s.bitn = BitVec.ofNat 4 n) :
    lineNextBit s = .next (enter (bitLines { s with bitn := BitVec.ofNat 4 (n + 1) })
      { s with bitn := BitVec.ofNat 4 (n + 1) }) := by
  have hlt : s.bitn < 15 := by rw [hb]; bv_omega
  have hsucc : s.bitn + 1 = BitVec.ofNat 4 (n + 1) := by rw [hb]; bv_omega
  simp only [lineNextBit, hlt, if_true, hsucc]

/-- After bit 15 the end of a turn is the end of the loop (R55). -/
theorem lineNextBit_last {s : State} (hb : s.bitn = 15) : lineNextBit s = .next s := by
  simp [lineNextBit, hb]

/-- The loop reaches the end of every turn, by induction on the number of the bit. -/
theorem reaches_afterBits {s : State} (hr : running s = true) (hclk : s.srClk = false) {n : Nat} (hn : n < 16) :
    Reaches (enter (bitLines { s with bitn := 0 }) { s with bitn := 0 })
      { afterBits n s with work := .nextBit :: s.work } := by
  induction n with
  | zero => exact afterShiftBit_zero hclk ▸ reaches_bit (s := { s with bitn := 0 }) hr
  | succ n ih =>
    have hturn := reaches_bit (s := { afterBits n s with bitn := BitVec.ofNat 4 (n + 1) }) hr
    rw [BitVec.toNat_ofNat, Nat.mod_eq_of_lt hn] at hturn
    rw [← afterShiftBit_afterBits]
    exact (ih (by omega)).trans (.line hr rfl (lineNextBit_of_lt (by omega) rfl) hturn)

/-- The whole loop, from the entry of bit 0 to what stands behind it (R55). -/
theorem reaches_bits {s : State} (hr : running s = true) (hclk : s.srClk = false) :
    Reaches (enter (bitLines { s with bitn := 0 }) { s with bitn := 0 }) (afterBits 15 s) :=
  (reaches_afterBits hr hclk (by decide)).trans (.line hr rfl (lineNextBit_last rfl) (.refl _))

/-- The latch low, the loop, and at the latch's rising edge the shift stage holds `a` (R45, R55). -/
theorem completes_setAddress (a : Half) {s : State} (hr : running s = true) (hclk : s.srClk = false) :
    Completes (.setAddress a) s (afterAddress a s) := by
  have hloop := reaches_bits (s := setPin .srLatch false { s with areg := a, work := .set .srLatch true :: s.work })
    hr hclk
  refine ⟨_, rfl, .setPin hr rfl (hloop.trans (.setPin hr rfl (.of_eq ?_)))⟩
  simp [afterBits, bitEvents, afterAddress, addressEvents, happened, shiftIn_frame, emit]

/-- Settles O26: the run ends in `afterAddress`, which leaves `bitn` at 15. -/
theorem setAddress : Obligations.SetAddress := by
  intro s a hr hclk
  obtain ⟨s1, hexec, hrun⟩ := completes_setAddress a hr hclk
  exact ⟨s1, 15, hexec, hrun⟩

/-! ## The external register -/

/-- The levels on the external register's three wires, and the register itself (R10, R20). -/
structure Wires where
  /-- `SR_DATA` -/
  srData : Bool
  /-- `SR_CLK` -/
  srClk : Bool
  /-- `SR_LATCH` -/
  srLatch : Bool
  /-- the shift stage `Q` -/
  extQ : Half
  /-- the address latch `A` -/
  extA : Half

/-- The wires of a state. -/
def State.wires (s : State) : Wires where
  srData := s.srData
  srClk := s.srClk
  srLatch := s.srLatch
  extQ := s.extQ
  extA := s.extA

/-- The register moves as R57 says when the wires go from `w` to `w'`. -/
def Wires.MovesTo (w w' : Wires) : Prop :=
  w'.extA = (if w.srLatch = false ∧ w'.srLatch = true then w.extQ else w.extA)
    ∧ w'.extQ = if w.srClk = false ∧ w'.srClk = true then shiftIn w.srData w.extQ else w.extQ

/-- Where no wire moves there is no edge, and the register holds. -/
theorem Wires.MovesTo.refl (w : Wires) : w.MovesTo w := by
  simp [MovesTo]

/-- Every pin write: an edge moves the one stage that answers to it. -/
theorem setPin_movesTo (p : Pin) (b : Bool) (s : State) : s.wires.MovesTo (setPin p b s).wires := by
  cases p <;> simp [Wires.MovesTo, State.wires]

/-- A reset is taken on the idle bus alone: it finds the latch high already and leaves the clock low, so it makes no edge
(R57, R70, R114). -/
theorem resetBlock_movesTo {s : State} (h : resettable s = true) : s.wires.MovesTo (resetBlock s).wires := by
  have hidle : busOf s = idleBus := (busIdle_iff s).mp (Bool.and_eq_true _ _ ▸ h).1
  have hlatch : s.srLatch = true := congrArg Bus.latch hidle
  simp [Wires.MovesTo, State.wires, State.reset, hlatch]

/-- The answer `r`, if it is a next state, is one where `P` holds. -/
def Ensures (r : Out) (P : State → Prop) : Prop := ∀ t, r = .next t → P t

section
variable {P : State → Prop}

theorem Ensures.next {t : State} (h : P t) : Ensures (.next t) P := by
  rintro _ ⟨⟩
  exact h

theorem Ensures.fault (r : Fault) : Ensures (.fault r) P := by
  rintro _ ⟨⟩

theorem Ensures.refused (r : Refusal) : Ensures (.refused r) P := by
  rintro _ ⟨⟩

theorem Ensures.ite {c : Prop} [Decidable c] {r r' : Out} (h : c → Ensures r P) (h' : ¬ c → Ensures r' P) :
    Ensures (if c then r else r') P := by
  split
  next hc => exact h hc
  next hc => exact h' hc

theorem Ensures.serRead {s : State} {k : Byte → State → State}
    (h : ∀ b rest, P (k b (emit (.rx b) { s with rx := rest }))) : Ensures (serRead s k) P := by
  intro t ht
  obtain ⟨b, rest, -, rfl⟩ := serRead_eq_next ht
  exact h b rest

theorem Ensures.serWrite {s : State} {b : Byte} {k : State → State}
    (h : P (k (emit (.tx b) { s with tx := s.tx ++ [b] }))) : Ensures (serWrite b s k) P := by
  intro t ht
  obtain ⟨-, rfl⟩ := serWrite_eq_next ht
  exact h

end

/-- The answer `r`, if it is a next state, moves the external register as R57 says. -/
abbrev MovesRegister (s : State) (r : Out) : Prop := Ensures r fun t => s.wires.MovesTo t.wires

/-- An answer that leaves the wires alone. -/
theorem movesRegister_held {s t : State} (h : t.wires = s.wires) : MovesRegister s (.next t) :=
  .next (h ▸ .refl _)

/-- A choice between two such answers. -/
theorem movesRegister_held_or_held {s t t' : State} {c : Prop} [Decidable c] (h : t.wires = s.wires)
    (h' : t'.wires = s.wires) : MovesRegister s (if c then .next t else .next t') :=
  .ite (fun _ => movesRegister_held h) fun _ => movesRegister_held h'

/-- Taking a byte from the host leaves the wires alone, whatever the other registers do with it. -/
theorem movesRegister_serRead {s : State} {k : Byte → State → State} (hk : ∀ b u, (k b u).wires = u.wires) :
    MovesRegister s (serRead s k) :=
  .serRead fun b rest => (hk b (emit (.rx b) { s with rx := rest })) ▸ .refl s.wires

/-- Sending a byte leaves the wires alone, whatever the loop around it does next. -/
theorem movesRegister_serWrite {s : State} {b : Byte} {k : State → State} (hk : ∀ u, (k u).wires = u.wires) :
    MovesRegister s (serWrite b s k) :=
  .serWrite ((hk (emit (.tx b) { s with tx := s.tx ++ [b] })) ▸ .refl s.wires)

/-- Of the operations of the opcode table the reset alone sets the wires; every other one enters its lines, writes registers
or the data lines, takes or sends a byte, or stops. -/
theorem exec_movesRegister (i : Instr) (s : State) : MovesRegister s (exec i s) := by
  cases i with
  | reset => exact .ite (fun h => .next (resetBlock_movesTo h)) fun _ => .refused _
  | idle =>
    change MovesRegister s (execIdle s)
    unfold execIdle
    exact movesRegister_serRead fun _ _ => rfl
  | dispatch =>
    change MovesRegister s (execDispatch s)
    unfold execDispatch
    exact movesRegister_serRead fun _ _ => rfl
  | ackChunk | endBank => exact movesRegister_serWrite fun _ => rfl
  | dbWrite | dbRead | toOutput | toInput => exact .ite (fun _ => movesRegister_held rfl) fun _ => .refused _
  | mbc1RomW2 => exact movesRegister_held_or_held rfl rfl
  | _ => exact movesRegister_held rfl

/-- Of the lines that are no call, the pin write alone moves a wire. -/
theorem runLine_movesRegister (l : Task) (s : State) : MovesRegister s (runLine l s) := by
  cases l with
  | call i => exact exec_movesRegister i s
  | set p b => exact .next (setPin_movesTo p b s)
  | sendHdr =>
    change MovesRegister s (lineSendHdr s)
    unfold lineSendHdr
    exact movesRegister_serWrite fun u => by split <;> rfl
  | sendBuf =>
    change MovesRegister s (lineSendBuf s)
    unfold lineSendBuf
    exact movesRegister_serWrite fun u => by split <;> rfl
  | recvByte =>
    change MovesRegister s (lineRecvByte s)
    unfold lineRecvByte
    exact movesRegister_serRead fun _ u => by dsimp only; split <;> rfl
  | copyHdr => exact movesRegister_held (by simp only [State.wires])
  | nextBit | storeByte | romBank | nextRomBank | nextBlk | ramBank | nextRamBank | flashBank | nextFlashBank
  | nextChunk | nextWrite => exact movesRegister_held_or_held rfl rfl
  | _ => exact movesRegister_held rfl

theorem runControl_movesRegister (s : State) : MovesRegister s (runControl s) := by
  unfold runControl
  cases s.fsm with
  | init => exact exec_movesRegister .init s
  | idle => exact exec_movesRegister .idle s
  | dispatch => exact exec_movesRegister .dispatch s
  | exec => exact movesRegister_held rfl
  | fault => exact .fault .stopped

theorem runBlock_movesRegister (s : State) : MovesRegister s (runBlock s) := by
  refine .ite (fun _ => .fault .stopped) fun _ => ?_
  cases s.work with
  | nil => exact runControl_movesRegister s
  | cons l ls => exact runLine_movesRegister l { s with work := ls }

/-- Settles O27: a step is the reset or a line of the block. -/
theorem externalRegister : Obligations.ExternalRegister := fun s =>
  Ensures.ite (fun _ => exec_movesRegister .reset s) fun _ => runBlock_movesRegister s

end Sys2Proof.Machine

/-! PROOFS of the data bus's statements (`41_data_bus.md`: R59-R64). Each operation has one answer per direction: the laws of
the shared operations say it for the direction the operation requires, and the refusals of R63 stand here. -/

namespace Sys2Proof.Machine

/-! ## The refusals -/

/-- `to_output` with the lines already driven (R63). -/
theorem execToOutput_output {s : State} (h : s.dir = .output) : execToOutput s = .refused .wrongDirection := by
  simp [execToOutput, h]

/-- `to_input` with the lines already sampled (R63). -/
theorem execToInput_input {s : State} (h : s.dir = .input) : execToInput s = .refused .wrongDirection := by
  simp [execToInput, h]

/-- `db_read` against the block's own drivers (R63). -/
theorem execDbRead_output {s : State} (h : s.dir = .output) : execDbRead s = .refused .wrongDirection := by
  simp [execDbRead, h]

/-- `db_write` with the lines not driven (R63). -/
theorem execDbWrite_input {s : State} (v : Byte) (h : s.dir = .input) :
    execDbWrite v s = .refused .wrongDirection := by
  simp [execDbWrite, h]

/-- Settles O23, one refusal per operation. -/
theorem wrongDirectionRefused : Obligations.WrongDirectionRefused :=
  ⟨fun _ h => ⟨execDbRead_output h, execToOutput_output h⟩, fun _ v h => ⟨execDbWrite_input v h, execToInput_input h⟩⟩

/-! ## The direction the operation requires -/

/-- Settles O20: `setDir` is the state the statement writes out. -/
theorem directionSwitch : Obligations.DirectionSwitch :=
  ⟨fun _ h => execToOutput_input h, fun _ h => execToInput_output h⟩

/-- Settles O21: the vector driven is `pinMap v`. -/
theorem dataBusWrite : Obligations.DataBusWrite :=
  fun _ v h => ⟨pinMap v, execDbWrite_output v h, pinMap_bit v⟩

/-- The environment's queue, where it holds an answer, decides the byte on the lines (R33). -/
theorem lineByte_of_answers_eq_cons {s : State} {b : Byte} {rest : List Byte} (h : s.answers = b :: rest) :
    lineByte s = b := by
  simp [lineByte, h]

/-- Settles O22: the levels are the pin map of the environment's byte, so that byte is what they pack to. -/
theorem dataBusRead : Obligations.DataBusRead :=
  fun s h => ⟨lineByte s, pinMap (lineByte s), execDbRead_input h, fun p => (pinMap_bit _ p).symm,
    fun _ _ => lineByte_of_answers_eq_cons⟩

/-! ## The round trip -/

/-- `db_read` of levels the environment has queued: one sample of exactly those levels, and in `dreg` their packing (R33,
R61). -/
theorem execDbRead_of_levels {s : State} {l : BitVec 8} {rest : List Byte} (h : s.dir = .input)
    (hl : s.answers = pinMap l :: rest) :
    execDbRead s = .next (emit (.sample l) { s with dreg := pinMap l, answers := rest }) := by
  rw [execDbRead_input h, lineByte_of_answers_eq_cons hl, pinMap_pinMap, hl, List.tail_cons]

/-- Settles O24: the read packs the driven levels `pinMap v`, and the pin map is its own inverse (R64). -/
theorem loopBack : Obligations.LoopBack := fun _ v _ h =>
  ⟨_, _, _, execDbWrite_output v h, execToInput_output h, execDbRead_of_levels rfl rfl, rfl, pinMap_pinMap v⟩

end Sys2Proof.Machine


/-! PROOFS of the cartridge bus's statements (`42_cartridge_bus.md`: R65-R71; `70_reset_and_hazards.md`: R117, R118). The bus
discipline first: a pending line either needs the idle bus and moves no level, or is a part of a bus access that enters only
lines which go on from the levels it leaves. Then where whole accesses lead: a read and a write line by line, a block by
induction on the number of the byte. -/

namespace Sys2Proof.Machine

/-! ## The bus discipline, clause by clause -/

theorem busDiscipline_iff {s : State} :
    busDiscipline s = true ↔
      passLines s.work (busOf s) = some idleBus ∧ noContention s = true ∧ (s.fsm = .fault → busOf s = idleBus) := by
  simp [busDiscipline, and_assoc, or_iff_not_imp_left]

/-- There is no contention where the read strobe is high, or the lines are inputs and the write strobe is high (R71). -/
theorem noContention_iff {s : State} :
    noContention s = true ↔ s.rdN = true ∨ (s.dir = .input ∧ s.wrN = true) := by
  cases hdir : s.dir with
  | input => simp [noContention, hdir]
  | output => simpa [noContention, hdir] using Or.inl

theorem passLines_append (ls ls' : List Task) (b : Bus) :
    passLines (ls ++ ls') b = (passLines ls b).bind (passLines ls') := by
  induction ls generalizing b with
  | nil => rfl
  | cons l ls ih => simp [passLines, ih, Option.bind_assoc]

/-- What a step may answer under the bus discipline: a state that keeps it, a wait or stop on the idle bus, or a refusal for
another reason than the direction (R63, R70). -/
def Orderly (s : State) : Out → Prop
  | .next t => busDiscipline t = true
  | .fault _ => busOf s = idleBus
  | .refused r => r ≠ .wrongDirection

theorem Orderly.of_eq {s : State} {r r' : Out} (h : r = r') (hr : Orderly s r') : Orderly s r := h ▸ hr

theorem Orderly.ite {s : State} {c : Prop} [Decidable c] {r r' : Out} (h : c → Orderly s r) (h' : ¬ c → Orderly s r') :
    Orderly s (if c then r else r') := by
  split
  next hc => exact h hc
  next hc => exact h' hc

/-! ## Lines that need the idle bus -/

/-- The bus is idle, and what is pending leaves it idle. -/
def IdleAt (s : State) : Prop := busOf s = idleBus ∧ passLines s.work idleBus = some idleBus

/-- On the idle bus the discipline asks only for the pending lines, whatever the control state. -/
theorem IdleAt.busDiscipline {s : State} (h : IdleAt s) : busDiscipline s = true := by
  obtain ⟨hbus, hrest⟩ := h
  have hrdN : s.rdN = true := congrArg Bus.rdN hbus
  exact busDiscipline_iff.mpr ⟨hbus ▸ hrest, noContention_iff.mpr (.inl hrdN), fun _ => hbus⟩

/-- A line that passes had its guard met, and what is pending goes on from the levels it leaves. -/
theorem guard_of_pass {c : Prop} [Decidable c] {b : Bus} {ls : List Task}
    (h : (if c then some b else none).bind (passLines ls) = some idleBus) : c ∧ passLines ls b = some idleBus := by
  split at h
  next hc => exact ⟨hc, h⟩
  next => cases h

/-- A line that asks for the idle bus has it. -/
theorem idleAt_of_pass {s : State}
    (h : (if busOf s = idleBus then some idleBus else none).bind (passLines s.work) = some idleBus) : IdleAt s :=
  guard_of_pass h

/-- No level changes and nothing is entered. -/
theorem IdleAt.held {s t : State} (h : IdleAt s) (hbus : busOf t = busOf s) (hwork : t.work = s.work) : IdleAt t :=
  ⟨hbus.trans h.1, hwork ▸ h.2⟩

/-- No level changes and lines are entered that keep the bus idle. -/
theorem IdleAt.entered {s t : State} {ls : List Task} (h : IdleAt s) (hbus : busOf t = busOf s)
    (hwork : t.work = ls ++ s.work) (hls : passLines ls idleBus = some idleBus) : IdleAt t := by
  refine ⟨hbus.trans h.1, ?_⟩
  rw [hwork, passLines_append, hls]
  exact h.2

theorem IdleAt.next {s t : State} (h : IdleAt t) : Orderly s (.next t) := h.busDiscipline

theorem IdleAt.next_held {s t : State} (h : IdleAt s) (hbus : busOf t = busOf s) (hwork : t.work = s.work) :
    Orderly s (.next t) :=
  (h.held hbus hwork).next

theorem IdleAt.next_entered {s t : State} {ls : List Task} (h : IdleAt s) (hbus : busOf t = busOf s)
    (hwork : t.work = ls ++ s.work) (hls : passLines ls idleBus = some idleBus) : Orderly s (.next t) :=
  (h.entered hbus hwork hls).next

/-- The end of one turn of a loop: another turn or none. -/
theorem IdleAt.next_turn {s t t' : State} {c : Prop} [Decidable c] {ls : List Task} (h : IdleAt s)
    (hbus : busOf t = busOf s) (hwork : t.work = ls ++ s.work) (hls : passLines ls idleBus = some idleBus)
    (hbus' : busOf t' = busOf s) (hwork' : t'.work = s.work) : Orderly s (if c then .next t else .next t') :=
  .ite (fun _ => h.next_entered hbus hwork hls) fun _ => h.next_held hbus' hwork'

/-- A fault drops what is pending and moves no pin (R103). -/
theorem IdleAt.takeFault {s : State} (h : IdleAt s) (c : FaultCode) : Orderly s (.next (takeFault c s)) :=
  IdleAt.next ⟨h.1, rfl⟩

/-- A `SerRead` may wait, as the bus is idle (R70, R100). -/
theorem IdleAt.serRead {s : State} {k : Byte → State → State} (h : IdleAt s)
    (hk : ∀ b u, IdleAt u → IdleAt (k b u)) : Orderly s (serRead s k) := by
  unfold Machine.serRead
  split
  · exact h.1
  · exact IdleAt.next (hk _ _ (h.held rfl rfl))

/-- A `SerWrite` may wait, as the bus is idle (R70, R100). -/
theorem IdleAt.serWrite {s : State} {b : Byte} {k : State → State} (h : IdleAt s)
    (hk : ∀ u, IdleAt u → IdleAt (k u)) : Orderly s (serWrite b s k) :=
  .ite (fun _ => IdleAt.next (hk _ (h.held rfl rfl))) fun _ => h.1

/-! ## The rows and lines entered by a choice -/

/-- Where both rows keep the bus idle, it does not matter which of them is taken. -/
theorem passOp_ite {p : Prop} [Decidable p] {i j : Instr} (hi : passOp i idleBus = some idleBus)
    (hj : passOp j idleBus = some idleBus) : passOp (if p then i else j) idleBus = some idleBus := by
  split
  · exact hi
  · exact hj

theorem passOp_decodeSync8 (b : Byte) : passOp (decodeSync8 b) idleBus = some idleBus := by
  unfold decodeSync8
  repeat' apply passOp_ite
  all_goals rfl

theorem passOp_decodeCmd8 (b : Byte) : passOp (decodeCmd8 b) idleBus = some idleBus := by
  unfold decodeCmd8
  repeat' apply passOp_ite
  all_goals rfl

theorem passOp_decodeCtype8 (b : Byte) : passOp (decodeCtype8 b) idleBus = some idleBus := by
  unfold decodeCtype8
  repeat' apply passOp_ite
  all_goals rfl

theorem passOp_decodeRomsz8 (b : Byte) : passOp (decodeRomsz8 b) idleBus = some idleBus := by
  unfold decodeRomsz8
  repeat' apply passOp_ite
  all_goals rfl

theorem passOp_decodeRamsz8 (b : Byte) : passOp (decodeRamsz8 b) idleBus = some idleBus := by
  unfold decodeRamsz8
  repeat' apply passOp_ite
  all_goals rfl

/-- One call that keeps the bus idle. -/
theorem passLines_call {i : Instr} (h : passOp i idleBus = some idleBus) :
    passLines [.call i] idleBus = some idleBus := by
  simp [passLines, passLine, h]

theorem passLines_ite {p : Prop} [Decidable p] {ls ls' : List Task} (h : passLines ls idleBus = some idleBus)
    (h' : passLines ls' idleBus = some idleBus) : passLines (if p then ls else ls') idleBus = some idleBus := by
  split
  · exact h
  · exact h'

theorem passLines_romSelectLines (k : Variant) (n : Half) :
    passLines (romSelectLines k n) idleBus = some idleBus := by
  cases k
  case mbc1 => exact passLines_ite rfl rfl
  all_goals rfl

theorem passLines_ramSelectLines (k : Variant) (n : Byte) :
    passLines (ramSelectLines k n) idleBus = some idleBus := by
  cases k <;> rfl

/-- One turn of DumpRom's loop, with the select write or without it (R96). -/
theorem passLines_romBankLines (c : Bool) (i : Half) (base : Half) :
    passLines ((if c then [.call (.selectRomBank i)] else []) ++ [.blkLoop base 31, .nextRomBank]) idleBus =
      some idleBus := by
  cases c <;> rfl

/-- `read_byte`'s lines, with the settle delay or without it (R65, R117). -/
theorem passLines_readByte (a : Half) (s : State) :
    passLines ([.set .wrN true, .set .rdN false, .call (.setAddress a)] ++ settleLines s
      ++ [.call .dbRead, .set .rdN true]) idleBus = some idleBus := by
  unfold settleLines
  split <;> rfl

/-! ## The parts of a bus access -/

/-- A part of a bus access that enters lines: they go on from its levels to where what was pending goes on. -/
theorem orderly_entered {s t : State} {ls : List Task} {b : Bus} (hfsm : t.fsm ≠ .fault) (hcon : noContention t = true)
    (hwork : t.work = ls ++ s.work) (hls : passLines ls (busOf t) = some b) (hrest : passLines s.work b = some idleBus) :
    Orderly s (.next t) := by
  refine busDiscipline_iff.mpr ⟨?_, hcon, fun h => absurd h hfsm⟩
  rw [hwork, passLines_append, hls]
  exact hrest

/-- A part of a bus access that is done at once: what was pending goes on from the levels it leaves. -/
theorem orderly_done {s t : State} (hfsm : t.fsm ≠ .fault) (hcon : noContention t = true) (hwork : t.work = s.work)
    (hrest : passLines s.work (busOf t) = some idleBus) : Orderly s (.next t) :=
  orderly_entered (ls := []) hfsm hcon hwork rfl hrest

theorem passOp_shiftBit (d : Bool) (b : Bus) :
    passOp (.shiftBit d) b = if !b.latch && !b.clk then some b else none := rfl

theorem passLine_call (i : Instr) (b : Bus) : passLine (.call i) b = passOp i b := rfl
theorem passLine_set_srData (l : Bool) (b : Bus) :
    passLine (.set .srData l) b = if !b.latch && !b.clk then some b else none := rfl
theorem passLine_set_srClk (c : Bool) (b : Bus) :
    passLine (.set .srClk c) b = if !b.latch then some { b with clk := c } else none := rfl
theorem passLine_set_srLatch (l : Bool) (b : Bus) :
    passLine (.set .srLatch l) b = if !b.clk then some { b with latch := l } else none := rfl
theorem passLine_nextBit (b : Bus) : passLine .nextBit b = if !b.latch && !b.clk then some b else none := rfl

/-- A turn of `set_address`'s loop, entered with latch and clock low (R55, R118). -/
theorem passLines_bitLines (s : State) {b : Bus} (hlatch : b.latch = false) (hclk : b.clk = false) :
    passLines (bitLines s) b = some b := by
  simp [bitLines, passLines, passLine_call, passOp_shiftBit, passLine_nextBit, hlatch, hclk]

/-- The bits of an address between the latch's edges (R55, R118). -/
theorem passLines_addressLines (s : State) {b : Bus} (hlatch : b.latch = true) (hclk : b.clk = false) :
    passLines (.set .srLatch false :: bitLines s ++ [.set .srLatch true]) b = some b := by
  cases b
  simp_all [passLines, passLines_append, passLines_bitLines, passLine_set_srLatch]

/-- One address bit while the latch is low (R56, R118). -/
theorem passLines_shiftBitLines (d : Bool) {b : Bus} (hlatch : b.latch = false) (hclk : b.clk = false) :
    passLines [.set .srData d, .set .srClk true, .set .srClk false] b = some b := by
  cases b
  simp_all [passLines, passLine_set_srData, passLine_set_srClk]

/-! ## Every line -/

theorem IdleAt.execIdle {s : State} (h : IdleAt s) : Orderly s (execIdle s) := by
  unfold Machine.execIdle
  exact h.serRead fun b _ hu => hu.entered rfl rfl (passLines_call (passOp_decodeSync8 b))

theorem IdleAt.execDispatch {s : State} (h : IdleAt s) : Orderly s (execDispatch s) := by
  unfold Machine.execDispatch
  exact h.serRead fun b _ hu => hu.entered rfl rfl (passLines_call (passOp_decodeCmd8 b))

/-- After a byte sent or received, another turn of its loop or the loop's end. -/
theorem IdleAt.turn {s t t' : State} {c : Prop} [Decidable c] {ls : List Task} (h : IdleAt s)
    (hbus : busOf t = busOf s) (hwork : t.work = ls ++ s.work) (hls : passLines ls idleBus = some idleBus)
    (hbus' : busOf t' = busOf s) (hwork' : t'.work = s.work) : IdleAt (if c then t else t') := by
  split
  · exact h.entered hbus hwork hls
  · exact h.held hbus' hwork'

theorem IdleAt.lineSendHdr {s : State} (h : IdleAt s) : Orderly s (lineSendHdr s) := by
  unfold Machine.lineSendHdr
  exact h.serWrite fun _ hu => hu.turn rfl rfl rfl rfl rfl

theorem IdleAt.lineSendBuf {s : State} (h : IdleAt s) : Orderly s (lineSendBuf s) := by
  unfold Machine.lineSendBuf
  exact h.serWrite fun _ hu => hu.turn rfl rfl rfl rfl rfl

theorem IdleAt.lineRecvByte {s : State} (h : IdleAt s) : Orderly s (lineRecvByte s) := by
  unfold Machine.lineRecvByte
  exact h.serRead fun _ _ hu => hu.turn rfl rfl rfl rfl rfl

/-- A reset leaves the bus idle with nothing pending; in the middle of an operation it is refused as such (R114). -/
theorem orderly_execReset (s : State) : Orderly s (execReset s) :=
  .ite (fun _ => IdleAt.next ⟨rfl, rfl⟩) fun _ => by simp [Orderly]

/-- Every operation of the opcode table: the seven parts of a bus access go on from the levels they are allowed at; every
other one needs the idle bus and moves no level. -/
theorem orderly_exec (i : Instr) {s : State} (hfsm : s.fsm ≠ .fault) (hcon : noContention s = true)
    (hpass : (passOp i (busOf s)).bind (passLines s.work) = some idleBus) : Orderly s (exec i s) := by
  cases i with
  | setAddress a =>
    obtain ⟨hguard, hrest⟩ := guard_of_pass hpass
    obtain ⟨hlatch, hclk⟩ : s.srLatch = true ∧ s.srClk = false := by simpa [busOf] using hguard
    exact orderly_entered hfsm hcon rfl (passLines_addressLines _ hlatch hclk) hrest
  | shiftBit d =>
    obtain ⟨hguard, hrest⟩ := guard_of_pass hpass
    obtain ⟨hlatch, hclk⟩ : s.srLatch = false ∧ s.srClk = false := by simpa [busOf] using hguard
    exact orderly_entered hfsm hcon rfl (passLines_shiftBitLines _ hlatch hclk) hrest
  | toOutput =>
    obtain ⟨hbus, hrest⟩ := guard_of_pass hpass
    have hdir : s.dir = .input := congrArg Bus.dir hbus
    have hrdN : s.rdN = true := congrArg Bus.rdN hbus
    exact .of_eq (execToOutput_input hdir) (orderly_done hfsm (noContention_iff.mpr (.inl hrdN)) rfl hrest)
  | toInput =>
    obtain ⟨hbus, hrest⟩ := guard_of_pass hpass
    have hdir : s.dir = .output := congrArg Bus.dir hbus
    have hout : busOf (setDir .input s) = idleBus := congrArg (fun b : Bus => { b with dir := .input }) hbus
    exact .of_eq (execToInput_output hdir) (IdleAt.next ⟨hout, hrest⟩)
  | dbWrite v =>
    obtain ⟨hguard, hrest⟩ := guard_of_pass hpass
    obtain ⟨⟨hdir, -⟩, -⟩ : ((busOf s).dir = .output ∧ _) ∧ _ := by simpa using hguard
    exact .of_eq (execDbWrite_output v hdir) (orderly_done hfsm hcon rfl hrest)
  | dbRead =>
    obtain ⟨hguard, hrest⟩ := guard_of_pass hpass
    obtain ⟨⟨⟨⟨hdir, -⟩, -⟩, -⟩, -⟩ : ((((busOf s).dir = .input ∧ _) ∧ _) ∧ _) ∧ _ := by simpa using hguard
    exact .of_eq (execDbRead_input hdir) (orderly_done hfsm hcon rfl hrest)
  | delay t => exact orderly_entered hfsm hcon (ls := [.delayEnd t]) rfl rfl hpass
  | ackChunk | endBank => exact (idleAt_of_pass hpass).serWrite fun _ hu => hu
  | idle => exact (idleAt_of_pass hpass).execIdle
  | dispatch => exact (idleAt_of_pass hpass).execDispatch
  | reset => exact orderly_execReset s
  | dumpHdr | dumpRom | dumpRam | flashRam | enableRam | disableRam | mbc1RomW1 | mbc1Ram | mbc2Rom | mbc3Rom
  | mbc3Ram | mbc5RomW1 | mbc5RomW2 | mbc5Ram | writeByte | readBlock | init | decodeHeader =>
    exact (idleAt_of_pass hpass).next_entered rfl rfl rfl
  | mbc1RomW2 h => exact (idleAt_of_pass hpass).next_turn rfl rfl rfl rfl rfl
  | readByte a => exact (idleAt_of_pass hpass).next_entered rfl rfl (passLines_readByte a s)
  | selectRomBank n => exact (idleAt_of_pass hpass).next_entered rfl rfl (passLines_romSelectLines _ n)
  | selectRamBank n => exact (idleAt_of_pass hpass).next_entered rfl rfl (passLines_ramSelectLines _ n)
  | raiseFault c => exact (idleAt_of_pass hpass).takeFault c
  | romOnlyRom | romOnlyRam | mbc2Ram | ctypeInvalid04 | ctypeInvalid07 | ctypeInvalid08 | ctypeInvalid0C
  | ctypeInvalid0E | ctypeInvalid14 | ctypeInvalid18 | ctypeInvalid1F | ctypeInvalid20 | ctypeInvalid40 | ctypeInvalid80
  | romszInvalid09 | romszInvalid0A | romszInvalid0C | romszInvalid10 | romszInvalid20 | romszInvalid40 | romszInvalid80
  | ramszInvalid06 | ramszInvalid08 | ramszInvalid10 | ramszInvalid20 | ramszInvalid40 | ramszInvalid80 =>
    exact (idleAt_of_pass hpass).takeFault _
  | _ => exact (idleAt_of_pass hpass).next_held rfl rfl

/-- A pin write is a part of a bus access (R71, R117, R118). -/
theorem orderly_lineSet (p : Pin) (l : Bool) {s : State} (hfsm : s.fsm ≠ .fault) (hcon : noContention s = true)
    (hpass : (passLine (.set p l) (busOf s)).bind (passLines s.work) = some idleBus) : Orderly s (lineSet p l s) := by
  cases p with
  | srData | srClk | srLatch => exact orderly_done hfsm hcon rfl (guard_of_pass hpass).2
  | rdN =>
    obtain ⟨hguard, hrest⟩ := guard_of_pass hpass
    have hstrobe : l = true ∨ ((busOf s).dir = .input ∧ (busOf s).wrN = true) := by simpa using hguard
    exact orderly_done hfsm (noContention_iff.mpr hstrobe) rfl hrest
  | wrN =>
    obtain ⟨hguard, hrest⟩ := guard_of_pass hpass
    have hstrobe : l = true ∨ ((busOf s).dir = .output ∧ (busOf s).rdN = true) := by simpa using hguard
    refine orderly_done hfsm (noContention_iff.mpr ?_) rfl hrest
    rcases hstrobe with hl | ⟨-, hrdN⟩
    · exact (noContention_iff.mp hcon).imp_right fun hread => ⟨hread.1, hl⟩
    · exact .inl hrdN

/-- Every pending line: beside the calls and the pin writes only the bit loop and the end of a delay are parts of a bus
access. -/
theorem orderly_runLine (l : Task) {s : State} (hfsm : s.fsm ≠ .fault) (hcon : noContention s = true)
    (hpass : (passLine l (busOf s)).bind (passLines s.work) = some idleBus) : Orderly s (runLine l s) := by
  cases l with
  | call i => exact orderly_exec i hfsm hcon hpass
  | set p l => exact orderly_lineSet p l hfsm hcon hpass
  | nextBit =>
    obtain ⟨hguard, hrest⟩ := guard_of_pass hpass
    obtain ⟨hlatch, hclk⟩ : s.srLatch = false ∧ s.srClk = false := by simpa [busOf] using hguard
    exact .ite (fun _ => orderly_entered hfsm hcon rfl (passLines_bitLines _ hlatch hclk) hrest)
      fun _ => orderly_done hfsm hcon rfl hrest
  | delayEnd t => exact orderly_done hfsm hcon rfl hpass
  | sendHdr => exact (idleAt_of_pass hpass).lineSendHdr
  | sendBuf => exact (idleAt_of_pass hpass).lineSendBuf
  | recvByte => exact (idleAt_of_pass hpass).lineRecvByte
  | decodeMbc => exact (idleAt_of_pass hpass).next_entered rfl rfl (passLines_call (passOp_decodeCtype8 _))
  | decodeRomSize => exact (idleAt_of_pass hpass).next_entered rfl rfl (passLines_call (passOp_decodeRomsz8 _))
  | decodeRamSize => exact (idleAt_of_pass hpass).next_entered rfl rfl (passLines_call (passOp_decodeRamsz8 _))
  | romBank => exact (idleAt_of_pass hpass).next_turn rfl rfl (passLines_romBankLines _ _ _) rfl rfl
  | storeByte | nextRomBank | nextBlk | ramBank | nextRamBank | flashBank | nextFlashBank | nextChunk | nextWrite =>
    exact (idleAt_of_pass hpass).next_turn rfl rfl rfl rfl rfl
  | blkLoop | sendLoop | chunkLoop | recvLoop | writeLoop | writeChunk =>
    exact (idleAt_of_pass hpass).next_entered rfl rfl rfl
  | copyHdr => exact (idleAt_of_pass hpass).next_held (by simp only [busOf]) rfl
  | toIdle => exact (idleAt_of_pass hpass).next_held rfl rfl

/-- With no line pending the bus is idle, so whatever the control state does next starts from the idle bus (R17, R70). -/
theorem orderly_runControl {s : State} (h : IdleAt s) : Orderly s (runControl s) := by
  unfold runControl
  cases s.fsm with
  | init => exact h.next_entered rfl rfl rfl
  | idle => exact h.execIdle
  | dispatch => exact h.execDispatch
  | exec => exact h.next_held rfl rfl
  | fault => exact h.1

/-- A step under the bus discipline is a reset, a stop on the idle bus, or the next line that passes. -/
theorem orderly_step {s : State} (h : busDiscipline s = true) : Orderly s (step s) := by
  obtain ⟨hpass, hcon, hstop⟩ := busDiscipline_iff.mp h
  refine .ite (fun _ => orderly_execReset s) fun _ => .ite hstop fun hfsm => ?_
  cases hwork : s.work with
  | nil =>
    rw [hwork] at hpass
    exact orderly_runControl ⟨Option.some.inj hpass, hwork ▸ rfl⟩
  | cons l ls =>
    rw [hwork] at hpass
    exact orderly_runLine l (s := { s with work := ls }) hfsm hcon hpass

/-- Settles O52: an orderly answer that is a state keeps the discipline. -/
theorem busDisciplineKept : Obligations.BusDisciplineKept := by
  intro s t h hstep
  have horderly := orderly_step h
  rwa [hstep] at horderly

/-- Settles O53: an orderly answer waits or stops on the idle bus alone, and is no refusal for the direction. -/
theorem stopsWithBusIdle : Obligations.StopsWithBusIdle := by
  intro s h
  have horderly := orderly_step h
  refine ⟨fun r hstep => (busIdle_iff s).mpr ?_, fun hstep => ?_⟩
  · rwa [hstep] at horderly
  · exact absurd rfl (hstep ▸ horderly)

/-! ## The strobe timer -/

/-- From the timer's start to its end, one event (R68). -/
theorem completes_delay (t : Nat) {s : State} (hr : running s = true) :
    Completes (.delay t) s (emit (.delay t) { s with tmr := 0 }) :=
  ⟨_, rfl, .line hr rfl rfl (.refl _)⟩

/-- The ticks take at least the time, and one tick less would not (R19, R68). -/
theorem ticks_spec (t fClk : Nat) :
    t * fClk ≤ ticks t fClk * 1000000000 ∧ ticks t fClk * 1000000000 < t * fClk + 1000000000 := by
  unfold ticks
  omega

/-- Settles O33: the timer is loaded with `ticks`, and the line behind it ends the delay. -/
theorem delayRuns : Obligations.DelayRuns := by
  intro s t hr
  obtain ⟨s1, hexec, hrun⟩ := completes_delay t hr
  obtain rfl : enter [.delayEnd t] { s with tmr := ticks t s.cfg.fClk } = s1 := Host.Outcome.next.inj hexec
  obtain ⟨henough, hleast⟩ := ticks_spec t s.cfg.fClk
  exact ⟨_, hexec, henough, hleast, hrun⟩

/-! ## One read -/

/-- The settle delay, where the parameter asks for one (R65, R120). -/
theorem reaches_settled {s : State} {ls : List Task} (hr : running s = true) (hw : s.work = settleLines s ++ ls) :
    Reaches s { s with
      work := ls, tmr := if 0 < s.cfg.tRdSettle then 0 else s.tmr
      trace := happened (if 0 < s.cfg.tRdSettle then [.delay s.cfg.tRdSettle] else []) s } := by
  by_cases hset : 0 < s.cfg.tRdSettle
  · simp only [settleLines, settles, hset, decide_true, if_true] at hw ⊢
    exact .delay hr hw (.refl _)
  · simp only [settleLines, settles, hset, decide_false, if_false] at hw ⊢
    exact .of_eq (by cases s; cases hw; rfl)

/-- The state of `read_byte(a)` before its `Sample` (R65). -/
def beforeSample (a : Half) (s : State) : State :=
  { s with
    areg := a, bitn := 15, srLatch := true, srClk := false, srData := a.getLsbD 15, rdN := false, wrN := true
    extQ := a, extA := a, tmr := if 0 < s.cfg.tRdSettle then 0 else s.tmr, trace := happened (readPrefix a s.cfg) s }

/-- The lines of `read_byte(a)` up to its `Sample`: the strobes, the address, the settle delay (R65). -/
theorem reaches_beforeSample (a : Half) (ls : List Task) {s : State} (hr : running s = true) (hclk : s.srClk = false) :
    Reaches (enter ([.set .wrN true, .set .rdN false, .call (.setAddress a)] ++ settleLines s ++ ls) s)
      { beforeSample a s with work := ls ++ s.work } := by
  refine .setPin hr rfl (.setPin hr rfl (.call hr rfl (completes_setAddress a hr hclk) ?_))
  refine Reaches.trans (reaches_settled (ls := ls ++ s.work) hr (List.append_assoc ..)) (.of_eq ?_)
  simp [beforeSample, readPrefix, afterAddress, happened, emit]

/-- With the read strobe active and the write strobe not, the byte on the lines is the one `read_byte` returns, whatever is
pending (R33). -/
theorem lineByte_beforeSample (a : Half) (ls : List Task) (s : State) :
    lineByte { beforeSample a s with work := ls } = readValue a s := by
  cases hans : s.answers with
  | nil => simp only [lineByte, readValue, beforeSample, hans, and_self, if_true]
  | cons b rest => simp only [lineByte, readValue, beforeSample, hans]

/-- The lines up to the `Sample`, the `Sample`, and the strobe's release (R65). -/
theorem completes_readByte (a : Half) {s : State} (hr : running s = true) (hclk : s.srClk = false)
    (hdir : s.dir = .input) : Completes (.readByte a) s (afterRead a s) := by
  refine ⟨_, rfl, (reaches_beforeSample a _ hr hclk).trans (.dbRead hr rfl hdir (.setPin hr rfl (.of_eq ?_)))⟩
  rw [lineByte_beforeSample]
  simp [afterRead, beforeSample, happened, readEvents, emit]

/-- Settles O28: the byte is `readValue`, the head of the queue where there is one. -/
theorem readByte : Obligations.ReadByte := by
  intro s a hr hclk hdir
  obtain ⟨s1, hexec, hrun⟩ := completes_readByte a hr hclk hdir
  exact ⟨s1, 15, readValue a s, hexec, fun b rest hans => by simp [readValue, hans], hrun⟩

/-! ## One write -/

/-- The ten lines of the rule, each where the one before it left the bus (R66). -/
theorem completes_writeByte (a : Half) (v : Byte) {s : State} (hr : running s = true) (hclk : s.srClk = false)
    (hdir : s.dir = .input) : Completes (.writeByte a v) s (afterWrite a v s) := by
  refine ⟨_, rfl, .toOutput hr rfl hdir (.call hr rfl (completes_setAddress a hr hclk) ?_)⟩
  refine .dbWrite hr rfl rfl (.delay hr rfl (.setPin hr rfl (.setPin hr rfl (.delay hr rfl (.setPin hr rfl ?_)))))
  refine .dbWrite hr rfl rfl (.toInput hr rfl rfl (.of_eq ?_))
  simp [afterWrite, afterAddress, happened, writeEvents, emit, setDQ, setDir]

/-- Settles O29: the run ends in `afterWrite`, which leaves `bitn` at 15. -/
theorem writeByte : Obligations.WriteByte := by
  intro s a v hr hclk hdir
  obtain ⟨s1, hexec, hrun⟩ := completes_writeByte a v hr hclk hdir
  exact ⟨s1, 15, hexec, hrun⟩

/-! ## A block -/

/-- `buf[n] <-` the byte read (R67). -/
def storeDreg (n : Nat) (s : State) : State := { s with buf := Memory.write s.buf n s.dreg }

/-- Byte `n` of a block is one read and one store (R67). -/
theorem afterBytes_succ (a : Half) (n : Nat) (s : State) :
    afterBytes a (n + 1) s = storeDreg n (afterRead (a + BitVec.ofNat 16 n) (afterBytes a n s)) := rfl

theorem afterBlock_eq (a : Half) (s : State) :
    afterBlock a s =
      { storeDreg 511 (afterRead (a + BitVec.ofNat 16 511) (afterBytes a 511 s)) with idx := 511 } := by
  rw [afterBlock, afterBytes_succ a 511 s]

/-- What the turns of a block leave as it was: every register but those of a read and `buf` (R65, R67). -/
theorem afterBytes_frame (a : Half) (n : Nat) (s : State) :
    afterBytes a n s =
      { s with
        areg := (afterBytes a n s).areg, bitn := (afterBytes a n s).bitn, dreg := (afterBytes a n s).dreg
        srLatch := (afterBytes a n s).srLatch, srClk := (afterBytes a n s).srClk, srData := (afterBytes a n s).srData
        rdN := (afterBytes a n s).rdN, wrN := (afterBytes a n s).wrN
        extQ := (afterBytes a n s).extQ, extA := (afterBytes a n s).extA, answers := (afterBytes a n s).answers
        tmr := (afterBytes a n s).tmr, trace := (afterBytes a n s).trace, buf := (afterBytes a n s).buf } := by
  induction n with
  | zero => rfl
  | succ n ih =>
    rw [afterBytes_succ]
    generalize afterBytes a n s = u at ih ⊢
    rw [ih]
    rfl

theorem afterBytes_running (a : Half) (n : Nat) (s : State) : running (afterBytes a n s) = running s :=
  (congrArg running (afterBytes_frame a n s) :)

theorem afterBytes_srClk (a : Half) (n : Nat) {s : State} (h : s.srClk = false) : (afterBytes a n s).srClk = false := by
  cases n with
  | zero => exact h
  | succ n => rfl

theorem afterBytes_dir (a : Half) (n : Nat) (s : State) : (afterBytes a n s).dir = s.dir :=
  (congrArg State.dir (afterBytes_frame a n s) :)

/-- The address of byte `n` of a block (R67). -/
theorem blockAddr_ofNat (a : Half) {n : Nat} (hn : n < 512) : blockAddr a (BitVec.ofNat 9 n) = a + BitVec.ofNat 16 n := by
  unfold blockAddr
  congr 1
  bv_omega

/-- Turn `n` of the loop up to its store: the byte is read (R67). -/
theorem reaches_blockByte (a : Half) {n : Nat} (hn : n < 512) {s : State} (hr : running s = true)
    (hclk : s.srClk = false) (hdir : s.dir = .input) :
    Reaches (enter (byteLines a { s with idx := BitVec.ofNat 9 n }) { s with idx := BitVec.ofNat 9 n })
      { afterRead (a + BitVec.ofNat 16 n) s with idx := BitVec.ofNat 9 n, work := .storeByte a :: s.work } := by
  rw [byteLines, blockAddr_ofNat a hn]
  exact .call hr rfl (completes_readByte _ hr hclk hdir) (.refl _)

/-- Before index 511 the store enters the next turn (R67). -/
theorem lineStoreByte_of_lt (a : Half) {s : State} {n : Nat} (hn : n < 511) (hidx : s.idx = BitVec.ofNat 9 n) :
    lineStoreByte a s =
      .next (enter (byteLines a { storeDreg n s with idx := BitVec.ofNat 9 (n + 1) })
        { storeDreg n s with idx := BitVec.ofNat 9 (n + 1) }) := by
  have hlt : s.idx < 511 := by rw [hidx]; bv_omega
  have hsucc : s.idx + 1 = BitVec.ofNat 9 (n + 1) := by rw [hidx]; bv_omega
  have hnat : s.idx.toNat = n := by rw [hidx]; exact Nat.mod_eq_of_lt (by omega)
  simp only [lineStoreByte, hlt, if_true, hsucc, hnat, storeDreg]

/-- At index 511 the store is the end of the loop (R67). -/
theorem reaches_lastStore (a b : Half) {s : State} (hr : running s = true) :
    Reaches { afterRead b s with idx := BitVec.ofNat 9 511, work := .storeByte a :: s.work }
      { storeDreg 511 (afterRead b s) with idx := 511 } :=
  .line hr rfl (t := { storeDreg 511 (afterRead b s) with idx := 511 }) rfl (.refl _)

/-- The loop reaches the store of every byte, by induction on its number. -/
theorem reaches_afterBytes (a : Half) {s : State} (hr : running s = true) (hclk : s.srClk = false) (hdir : s.dir = .input)
    {n : Nat} (hn : n < 512) :
    Reaches (enter (byteLines a { s with idx := 0 }) { s with idx := 0 })
      { afterRead (a + BitVec.ofNat 16 n) (afterBytes a n s) with
        idx := BitVec.ofNat 9 n, work := .storeByte a :: (afterBytes a n s).work } := by
  induction n with
  | zero => exact reaches_blockByte a hn hr hclk hdir
  | succ n ih =>
    have hrun (k : Nat) : running (afterBytes a k s) = true := (afterBytes_running a k s).trans hr
    have hturn := reaches_blockByte a hn (hrun (n + 1)) rfl ((afterBytes_dir a (n + 1) s).trans hdir)
    exact (ih (by omega)).trans (.line (hrun n) rfl (lineStoreByte_of_lt a (by omega) rfl) hturn)

/-- The 512 turns, the last of which ends with the store alone (R67). -/
theorem completes_readBlock (a : Half) {s : State} (hr : running s = true) (hclk : s.srClk = false)
    (hdir : s.dir = .input) : Completes (.readBlock a) s (afterBlock a s) := by
  refine ⟨_, rfl, (reaches_afterBytes a hr hclk hdir (n := 511) (by decide)).trans ?_⟩
  rw [afterBlock_eq]
  exact reaches_lastStore a _ ((afterBytes_running a 511 s).trans hr)

/-- Settles O31: the run of the whole loop ends in `afterBlock`. -/
theorem readBlock : Obligations.ReadBlock := fun _ a => completes_readBlock a

/-! ## The bytes of a block -/

/-- Each read takes one answer off the queue (R33). -/
theorem afterBytes_answers (a : Half) (n : Nat) (s : State) : (afterBytes a n s).answers = s.answers.drop n := by
  induction n with
  | zero => rfl
  | succ n ih =>
    calc (afterBytes a (n + 1) s).answers = (afterBytes a n s).answers.tail := rfl
      _ = s.answers.drop (n + 1) := by rw [ih, List.tail_drop]

/-- While the queue holds answers, byte `n` of a block is the `n`-th of them (R33, R67). -/
theorem readValue_afterBytes (a b : Half) {n : Nat} {s : State} (hn : n < s.answers.length) :
    readValue b (afterBytes a n s) = s.answers[n] := by
  have hans : (afterBytes a n s).answers = s.answers[n] :: s.answers.drop (n + 1) := by
    rw [afterBytes_answers, List.drop_eq_getElem_cons hn]
  simp only [readValue, hans]

theorem afterBytes_buf_wf (a : Half) (n : Nat) {s : State} (h : Memory.wf s.buf = true) :
    Memory.wf (afterBytes a n s).buf = true := by
  induction n with
  | zero => exact h
  | succ n ih => exact Memory.write_wf _ _ ih

/-- Above the bytes read so far `buf` is as it was (R67). -/
theorem read_afterBytes_above (a : Half) {n i : Nat} (s : State) (hi : n ≤ i) :
    Memory.read (afterBytes a n s).buf i = Memory.read s.buf i := by
  induction n with
  | zero => rfl
  | succ n ih => exact (Memory.read_write_other _ _ (by omega)).trans (ih (by omega))

/-- Byte `i` of the block is in `buf[i]` from its turn on (R67). -/
theorem read_afterBytes (a : Half) {n i : Nat} {s : State} (h : Memory.wf s.buf = true) (hi : i < n)
    (hn : n ≤ s.answers.length) : Memory.read (afterBytes a n s).buf i = s.answers[i] := by
  induction n with
  | zero => omega
  | succ n ih =>
    rcases Nat.lt_succ_iff_lt_or_eq.mp hi with hlt | rfl
    · exact (Memory.read_write_other _ _ (by omega)).trans (ih hlt (by omega))
    · exact (Memory.read_write_same _ _ (afterBytes_buf_wf a i h)).trans (readValue_afterBytes a _ hn)

/-- The first `n` bytes of `buf` are the first `n` answers (R33, R67). -/
theorem bytesOf_afterBytes (a : Half) {n : Nat} {s : State} (h : Memory.wf s.buf = true) (hn : n ≤ s.answers.length) :
    bytesOf (afterBytes a n s).buf n = s.answers.take n := by
  apply List.ext_getElem
  · simp [bytesOf, hn]
  · intro i hi hi'
    have hin : i < n := by simpa [bytesOf] using hi
    simp [bytesOf, read_afterBytes a h hin hn]

/-- From a queue that begins with `n` answers, `n` turns store them all and take them off (R33, R67). -/
theorem afterBytes_takes (a : Half) {n : Nat} {s : State} {bs rest : List Byte} (h : Memory.wf s.buf = true)
    (hlen : bs.length = n) (hans : s.answers = bs ++ rest) :
    bytesOf (afterBytes a n s).buf n = bs ∧ (afterBytes a n s).answers = rest := by
  subst hlen
  constructor
  · rw [bytesOf_afterBytes a h (by simp [hans]), hans, List.take_left]
  · rw [afterBytes_answers, hans, List.drop_left]

/-- Settles O32: `buf` is that of `afterBytes`, and everything else asked for is in its frame. -/
theorem blockHoldsAnswers : Obligations.BlockHoldsAnswers := by
  intro s a bs rest hr hclk hdir hmem hlen hans
  obtain ⟨s1, hexec, hrun⟩ := completes_readBlock a hr hclk hdir
  have hwf : Memory.wf s.buf = true := by
    simp only [memoriesCanonical, Bool.and_eq_true] at hmem
    exact hmem.1.1
  obtain ⟨hbytes, hrest⟩ := afterBytes_takes a hwf hlen hans
  have habove := fun i => read_afterBytes_above a (n := 512) (i := i) s
  have hframe := afterBytes_frame a 512 s
  unfold afterBlock at hrun
  generalize afterBytes a 512 s = u at hrun hbytes hrest habove hframe
  refine ⟨s1, _, hexec, hrun, hbytes, hrest, habove, ?_, ?_, ?_, ?_, ?_⟩
  all_goals rw [hframe]

end Sys2Proof.Machine

/-! PROOFS of the bank-switch translator's statements (`43_mbc_translator.md`: R72-R84). A control write is one whole
`write_byte` transaction, so a request leads where its control writes lead, each with the field it takes from the bank
number: bits cut out of it in the machine, a mask in the rule. -/

namespace Sys2Proof.Machine

/-! ## Bits cut out and masks -/

/-- The `k` bits of `x` from bit `lo` on have the value of `(x >> lo) & mask`, for the mask of the low `k` bits
(R49). -/
theorem toNat_extractLsb'_eq_and {w k : Nat} (lo : Nat) (x : BitVec w) {mask : BitVec w}
    (hmask : mask.toNat = 2 ^ k - 1) : (x.extractLsb' lo k).toNat = ((x >>> lo) &&& mask).toNat := by
  rw [BitVec.extractLsb'_toNat, BitVec.toNat_and, hmask, Nat.and_two_pow_sub_one_eq_mod, BitVec.toNat_ushiftRight]

/-- The same bits as the value of a write. -/
theorem setWidth_extractLsb'_eq_and {w k : Nat} (lo : Nat) (x : BitVec w) {mask : BitVec w}
    (hmask : mask.toNat = 2 ^ k - 1) : (x.extractLsb' lo k).setWidth 8 = ((x >>> lo) &&& mask).setWidth 8 := by
  apply BitVec.eq_of_toNat_eq
  rw [BitVec.toNat_setWidth, BitVec.toNat_setWidth, toNat_extractLsb'_eq_and lo x hmask]

theorem mbc1Low_setWidth (n : Half) : (mbc1Low n).setWidth 8 = (n &&& 0x1F).setWidth 8 :=
  setWidth_extractLsb'_eq_and 0 n rfl

theorem mbc1High_setWidth (n : Half) : (mbc1High n).setWidth 8 = ((n >>> 8) &&& 3).setWidth 8 :=
  setWidth_extractLsb'_eq_and 8 n rfl

theorem mbc2Low_setWidth (n : Half) : (mbc2Low n).setWidth 8 = (n &&& 0x0F).setWidth 8 :=
  setWidth_extractLsb'_eq_and 0 n rfl

theorem mbc3Low_setWidth (n : Half) : (mbc3Low n).setWidth 8 = (n &&& 0x7F).setWidth 8 :=
  setWidth_extractLsb'_eq_and 0 n rfl

theorem mbc5High_setWidth (n : Half) : (mbc5High n).setWidth 8 = ((n >>> 8) &&& 1).setWidth 8 :=
  setWidth_extractLsb'_eq_and 8 n rfl

theorem mbc5Low_eq (n : Half) : mbc5Low n = (n &&& 0xFF).setWidth 8 :=
  (BitVec.setWidth_eq _).symm.trans (setWidth_extractLsb'_eq_and 0 n rfl)

theorem ramLow2_setWidth (n : Byte) : (ramLow2 n).setWidth 8 = n &&& 3 :=
  (setWidth_extractLsb'_eq_and 0 n rfl).trans (BitVec.setWidth_eq _)

theorem ramLow4_setWidth (n : Byte) : (ramLow4 n).setWidth 8 = n &&& 0x0F :=
  (setWidth_extractLsb'_eq_and 0 n rfl).trans (BitVec.setWidth_eq _)

/-- MBC1's second write is made for exactly the bank numbers R77 says. -/
theorem upperBitsSet_mbc1High (n : Half) : upperBitsSet (mbc1High n) = true ↔ (n >>> 8) &&& 3 ≠ 0 := by
  have hvalue : (mbc1High n).toNat = ((n >>> 8) &&& 3).toNat := toNat_extractLsb'_eq_and 8 n rfl
  simp only [upperBitsSet, decide_eq_true_eq]
  bv_omega

/-! ## The unsupported requests -/

/-- Settles O19: the three rows are the entry of Fault(1) and nothing else. -/
theorem unsupportedRequests : Obligations.UnsupportedRequests :=
  fun _ => ⟨fun _ => rfl, fun _ => rfl, fun _ => rfl⟩

/-! ## One control write -/

/-- An operation that is a control write runs to the end of its `write_byte` transaction (R48, R66). -/
theorem completes_controlWrite {i : Instr} {a : Half} {v : Byte} {s : State} (hr : running s = true)
    (hclk : s.srClk = false) (hdir : s.dir = .input) (hi : exec i s = controlWrite a v s) :
    Completes i s (afterWrite a v s) :=
  ⟨_, hi, .call hr rfl (completes_writeByte a v hr hclk hdir) (.refl _)⟩

/-- Where the statements leave `bitn` open, it holds what the end of the run leaves in it (log 2). -/
theorem Completes.with_bitn {i : Instr} {s t : State} (h : Completes i s t) :
    ∃ s1 k, exec i s = .next s1 ∧ Reaches s1 { t with bitn := k } := by
  obtain ⟨s1, hexec, hrun⟩ := h
  exact ⟨s1, t.bitn, hexec, hrun⟩

/-- A control write is the one write transaction R48 says. -/
theorem makesWrite_of_controlWrite {i : Instr} {a : Half} {v : Byte} {s : State} (hr : running s = true)
    (hclk : s.srClk = false) (hdir : s.dir = .input) (hi : exec i s = controlWrite a v s) : MakesWrite i a v s :=
  (completes_controlWrite hr hclk hdir hi).with_bitn

/-- Settles O34: both operations are a control write to address 0. -/
theorem ramGate : Obligations.RamGate := fun _ hr hclk hdir =>
  ⟨makesWrite_of_controlWrite hr hclk hdir rfl, makesWrite_of_controlWrite hr hclk hdir rfl⟩

/-! ## The bank requests -/

/-- A pending control write, then a run. -/
theorem Reaches.controlWrite {s u : State} {i : Instr} {a : Half} {v : Byte} {ls : List Task} (hr : running s = true)
    (hclk : s.srClk = false) (hdir : s.dir = .input) (hw : s.work = .call i :: ls)
    (hi : exec i { s with work := ls } = Machine.controlWrite a v { s with work := ls })
    (r : Reaches (afterWrite a v { s with work := ls }) u) : Reaches s u :=
  .call hr hw (completes_controlWrite hr hclk hdir hi) r

/-- MBC1's upper write with a field that is not zero is a control write (R77). -/
theorem exec_mbc1RomW2_of_upperBitsSet {h : BitVec 2} (hset : upperBitsSet h = true) (s : State) :
    exec (.mbc1RomW2 h) s = controlWrite 0x4000 (h.setWidth 8) s := if_pos hset

/-- The lines of MBC1's ROM request: the low write, and the upper one where its field is not zero (R77). -/
theorem reaches_mbc1RomSelect (n : Half) {s : State} (hr : running s = true) (hclk : s.srClk = false)
    (hdir : s.dir = .input) : Reaches (enter (romSelectLines .mbc1 n) s) (afterSelectRom .mbc1 n s) := by
  simp only [romSelectLines, afterSelectRom, ← upperBitsSet_mbc1High, ← mbc1Low_setWidth, ← mbc1High_setWidth]
  refine .controlWrite hr hclk hdir rfl rfl ?_
  split
  next hset => exact .controlWrite hr rfl rfl rfl (exec_mbc1RomW2_of_upperBitsSet hset _) (.refl _)
  next => exact .refl _

/-- The lines of a ROM request, variant by variant (R75, R77, R79, R81, R83). -/
theorem completes_selectRomBank (n : Half) {s : State} (hr : running s = true) (hclk : s.srClk = false)
    (hdir : s.dir = .input) : Completes (.selectRomBank n) s (afterSelectRom s.variant n s) := by
  refine ⟨_, rfl, ?_⟩
  cases s.variant with
  | romOnly => exact .line hr rfl rfl (.refl _)
  | mbc1 => exact reaches_mbc1RomSelect n hr hclk hdir
  | mbc2 =>
    rw [afterSelectRom, ← mbc2Low_setWidth]
    exact .controlWrite hr hclk hdir rfl rfl (.refl _)
  | mbc3 =>
    rw [afterSelectRom, ← mbc3Low_setWidth]
    exact .controlWrite hr hclk hdir rfl rfl (.refl _)
  | mbc5 =>
    rw [afterSelectRom, ← mbc5High_setWidth, ← mbc5Low_eq]
    exact .controlWrite hr hclk hdir rfl rfl (.controlWrite hr rfl rfl rfl rfl (.refl _))

/-- Settles O36: the run of the variant's lines ends in `afterSelectRom`. -/
theorem selectRomBank : Obligations.SelectRomBank :=
  fun _ n hr hclk hdir => (completes_selectRomBank n hr hclk hdir).with_bitn

/-- The line of a RAM request, variant by variant (R76, R78, R80, R82, R84). -/
theorem completes_selectRamBank (n : Byte) {s : State} (hr : running s = true) (hclk : s.srClk = false)
    (hdir : s.dir = .input) : Completes (.selectRamBank n) s (afterSelectRam s.variant n s) := by
  refine ⟨_, rfl, ?_⟩
  cases s.variant with
  | romOnly | mbc2 => exact .line hr rfl rfl (.refl _)
  | mbc1 | mbc3 =>
    rw [afterSelectRam, ← ramLow2_setWidth]
    exact .controlWrite hr hclk hdir rfl rfl (.refl _)
  | mbc5 =>
    rw [afterSelectRam, ← ramLow4_setWidth]
    exact .controlWrite hr hclk hdir rfl rfl (.refl _)

/-- Settles O37: the run of the variant's line ends in `afterSelectRam`. -/
theorem selectRamBank : Obligations.SelectRamBank :=
  fun _ n hr hclk hdir => (completes_selectRamBank n hr hclk hdir).with_bitn

end Sys2Proof.Machine

/-! PROOFS of the header decoder's statements (`44_header_decoder.md`: R86-R91). That the session is read once comes first:
each pending line, and with none pending the control state's own line, goes on, ends `INIT`, or drops what is pending, and
both the sealed position and the session itself are read off that. Then where `decode_header` and `init` lead, line by line,
and what the record holds. -/

namespace Sys2Proof.Machine

/-! ## The session and the position -/

/-- The session's registers (R15, R16). -/
structure Session where
  /-- `hdr` -/
  hdr : Memory
  /-- `variant` -/
  variant : Variant
  /-- `rom_banks` -/
  romBanks : BitVec 10
  /-- `ram_banks` -/
  ramBanks : BitVec 5

/-- The session of a state. -/
def State.session (s : State) : Session where
  hdr := s.hdr
  variant := s.variant
  romBanks := s.romBanks
  ramBanks := s.ramBanks

/-- No line of these writes the session's registers. -/
def sparesSession (ls : List Task) : Bool := ls.all fun l => !writesSession l

theorem sparesSession_cons {l : Task} {ls : List Task} :
    sparesSession (l :: ls) = true ↔ writesSession l = false ∧ sparesSession ls = true := by
  simp [sparesSession]

theorem sparesSession_append {ls ls' : List Task} :
    sparesSession (ls ++ ls') = true ↔ sparesSession ls = true ∧ sparesSession ls' = true := by
  simp [sparesSession]

theorem sessionSealed_iff {s : State} :
    sessionSealed s = true ↔
      (s.fsm = .init → initOrder s.work = true) ∧ (s.fsm ≠ .init → sparesSession s.work = true) := by
  by_cases h : s.fsm = .init <;> simp [sessionSealed, sparesSession, h]

theorem initOrder_cons_of_leavesInit {l : Task} (ls : List Task) (h : leavesInit l = true) :
    initOrder (l :: ls) = sparesSession ls := by
  simp [initOrder, sparesSession, h]

theorem initOrder_cons_of_not_leavesInit {l : Task} (ls : List Task) (h : leavesInit l = false) :
    initOrder (l :: ls) = initOrder ls := by
  simp [initOrder, h]

/-- The lines neither end `INIT` nor write the session's registers. -/
def standBy (ls : List Task) : Bool := ls.all fun l => !leavesInit l && !writesSession l

theorem sparesSession_of_standBy {ls : List Task} (h : standBy ls = true) : sparesSession ls = true := by
  simp only [standBy, sparesSession, List.all_eq_true, Bool.and_eq_true] at h ⊢
  exact fun l hl => (h l hl).2

/-- Lines that stand by do not count in the order of `INIT`. -/
theorem initOrder_append_of_standBy {ls : List Task} (rest : List Task) (h : standBy ls = true) :
    initOrder (ls ++ rest) = initOrder rest := by
  induction ls with
  | nil => rfl
  | cons l ls ih =>
    simp only [standBy, List.all_cons, Bool.and_eq_true, Bool.not_eq_true'] at h
    obtain ⟨⟨hl, -⟩, hls⟩ := h
    exact (initOrder_cons_of_not_leavesInit _ hl).trans (ih hls)

/-! ## The rows a byte is decoded to -/

/-- The format of an operation's words (R36). -/
def formatOf (i : Instr) : Option Format := (encode i).map Prod.fst

theorem encode_of_formatOf {i : Instr} {f : Format} (h : formatOf i = some f) : ∃ w, encode i = some (f, w) := by
  obtain ⟨⟨_, w⟩, hw, rfl⟩ := Option.map_eq_some_iff.mp h
  exact ⟨w, hw⟩

/-- Where both rows are of the format, it does not matter which of them a byte matches. -/
theorem formatOf_ite {p : Prop} [Decidable p] {i j : Instr} {f : Format} (hi : formatOf i = some f)
    (hj : formatOf j = some f) : formatOf (if p then i else j) = some f := by
  split
  · exact hi
  · exact hj

theorem formatOf_decodeSync8 (b : Byte) : formatOf (decodeSync8 b) = some .sync8 := by
  unfold decodeSync8
  repeat' apply formatOf_ite
  all_goals rfl

theorem formatOf_decodeCmd8 (b : Byte) : formatOf (decodeCmd8 b) = some .cmd8 := by
  unfold decodeCmd8
  repeat' apply formatOf_ite
  all_goals rfl

theorem formatOf_decodeCtype8 (b : Byte) : formatOf (decodeCtype8 b) = some .ctype8 := by
  unfold decodeCtype8
  repeat' apply formatOf_ite
  all_goals rfl

theorem formatOf_decodeRomsz8 (b : Byte) : formatOf (decodeRomsz8 b) = some .romsz8 := by
  unfold decodeRomsz8
  repeat' apply formatOf_ite
  all_goals rfl

theorem formatOf_decodeRamsz8 (b : Byte) : formatOf (decodeRamsz8 b) = some .ramsz8 := by
  unfold decodeRamsz8
  repeat' apply formatOf_ite
  all_goals rfl

/-- An operation with words is none of those that have none. -/
theorem ne_of_formatOf {i j : Instr} {f : Format} (hi : formatOf i = some f) (hj : formatOf j = none) : i ≠ j := by
  rintro rfl
  simp [hi] at hj

/-- Of the operations with words exactly the rows of the three header codes write the session's registers. -/
theorem writesSession_of_formatOf {i : Instr} {f : Format} (h : formatOf i = some f) :
    writesSession (.call i) = (f = .ctype8 || f = .romsz8 || f = .ramsz8) := by
  obtain ⟨w, hw⟩ := encode_of_formatOf h
  have hinit : i ≠ .init := ne_of_formatOf h rfl
  have hdecode : i ≠ .decodeHeader := ne_of_formatOf h rfl
  have hreset : i ≠ .reset := ne_of_formatOf h rfl
  cases f <;> simp [writesSession, opWritesSession, hw, hinit, hdecode, hreset]

/-- Of the operations with words exactly the rows of the byte scanned in `IDLE` end `INIT`. -/
theorem leavesInit_of_formatOf {i : Instr} {f : Format} (h : formatOf i = some f) :
    leavesInit (.call i) = decide (f = .sync8) := by
  obtain ⟨w, hw⟩ := encode_of_formatOf h
  rw [leavesInit, hw]
  · cases f <;> rfl
  all_goals exact ne_of_formatOf h rfl

/-! ## What running one line does to both -/

/-- What the pending line `l`, run in `s`, can have done in the state `t` it answers. -/
inductive Seals (l : Task) (s t : State) : Prop
  /-- It stays in its control state and enters lines, which stand in for it in the order of `INIT`; a line that is none of
  the writers enters none and leaves the session as it was. -/
  | goesOn (ls : List Task) (hfsm : t.fsm = s.fsm) (hwork : t.work = ls ++ s.work)
      (horder : ∀ rest, initOrder (l :: rest) = true → initOrder (ls ++ rest) = true)
      (hspares : writesSession l = false → sparesSession ls = true ∧ t.session = s.session)
  /-- It ends `INIT`, entering no writer. -/
  | endsInit (ls : List Task) (hl : leavesInit l = true) (hfsm : t.fsm ≠ .init) (hwork : t.work = ls ++ s.work)
      (hspares : sparesSession ls = true) (hsession : t.session = s.session)
  /-- It drops what is pending: a fault, or the reset, which is one of the writers. -/
  | drops (hwork : t.work = []) (hsession : writesSession l = false → t.session = s.session)

/-- Running a line keeps the position sealed. -/
theorem Seals.sessionSealed {l : Task} {s t : State} (h : Seals l s t)
    (hs : sessionSealed { s with work := l :: s.work } = true) : sessionSealed t = true := by
  obtain ⟨hinit, hother⟩ := sessionSealed_iff.mp hs
  refine sessionSealed_iff.mpr ?_
  cases h with
  | goesOn ls hfsm hwork horder hspares =>
    rw [hfsm, hwork]
    refine ⟨fun hi => horder _ (hinit hi), fun ho => sparesSession_append.mpr ?_⟩
    obtain ⟨hl, hrest⟩ := sparesSession_cons.mp (hother ho)
    exact ⟨(hspares hl).1, hrest⟩
  | endsInit ls hl hfsm hwork hspares =>
    refine ⟨fun hi => absurd hi hfsm, fun _ => hwork ▸ sparesSession_append.mpr ⟨hspares, ?_⟩⟩
    by_cases hi : s.fsm = .init
    · exact initOrder_cons_of_leavesInit s.work hl ▸ hinit hi
    · exact (sparesSession_cons.mp (hother hi)).2
  | drops hwork => simp [hwork, initOrder, sparesSession]

/-- A line that is none of the writers leaves the session as it was. -/
theorem Seals.session_eq {l : Task} {s t : State} (h : Seals l s t) (hl : writesSession l = false) :
    t.session = s.session := by
  cases h with
  | goesOn _ _ _ _ hspares => exact (hspares hl).2
  | endsInit _ _ _ _ _ hsession => exact hsession
  | drops _ hsession => exact hsession hl

section
variable {l : Task} {s t t' : State} {ls : List Task}

/-- Lines that stand by are entered, and the session is as it was. -/
theorem Seals.entered (hfsm : t.fsm = s.fsm) (hwork : t.work = ls ++ s.work) (hl : leavesInit l = false)
    (hls : standBy ls = true) (hsession : t.session = s.session) : Seals l s t :=
  .goesOn ls hfsm hwork
    (fun rest h => (initOrder_append_of_standBy rest hls).trans (initOrder_cons_of_not_leavesInit rest hl ▸ h))
    fun _ => ⟨sparesSession_of_standBy hls, hsession⟩

/-- Nothing is entered, and the session is as it was. -/
theorem Seals.held (hfsm : t.fsm = s.fsm) (hwork : t.work = s.work) (hl : leavesInit l = false)
    (hsession : t.session = s.session) : Seals l s t :=
  .entered (ls := []) hfsm hwork hl rfl hsession

/-- A writer may enter writers and write the session. -/
theorem Seals.written (hfsm : t.fsm = s.fsm) (hwork : t.work = ls ++ s.work)
    (horder : ∀ rest, initOrder (l :: rest) = true → initOrder (ls ++ rest) = true) (hl : writesSession l = true) :
    Seals l s t :=
  .goesOn ls hfsm hwork horder fun h => by simp [hl] at h

/-- The line of a decode enters the row of a header code. -/
theorem Seals.decodes {i : Instr} {f : Format} (hfsm : t.fsm = s.fsm) (hwork : t.work = .call i :: s.work)
    (hl : leavesInit l = false) (hw : writesSession l = true) (hi : formatOf i = some f) (hf : f ≠ .sync8) :
    Seals l s t := by
  refine .written (ls := [.call i]) hfsm hwork (fun rest h => ?_) hw
  have hrow : leavesInit (.call i) = false := by simp [leavesInit_of_formatOf hi, hf]
  rw [initOrder_cons_of_not_leavesInit rest hl] at h
  exact (initOrder_cons_of_not_leavesInit rest hrow).trans h

theorem Seals.takeFault (l : Task) (c : FaultCode) (s : State) : Seals l s (takeFault c s) :=
  .drops rfl fun _ => rfl

theorem Seals.ite {c : Prop} [Decidable c] (h : Seals l s t) (h' : Seals l s t') : Seals l s (if c then t else t') := by
  split
  · exact h
  · exact h'

/-- A choice between two such answers, as the end of a loop's turn makes it. -/
theorem Seals.ensures_ite {c : Prop} [Decidable c] (h : Seals l s t) (h' : Seals l s t') :
    Ensures (if c then .next t else .next t') (Seals l s) :=
  .ite (fun _ => .next h) fun _ => .next h'

end

/-! ## Lines entered by a choice -/

theorem standBy_ite {p : Prop} [Decidable p] {ls ls' : List Task} (h : standBy ls = true) (h' : standBy ls' = true) :
    standBy (if p then ls else ls') = true := by
  split
  · exact h
  · exact h'

theorem standBy_romSelectLines (k : Variant) (n : Half) : standBy (romSelectLines k n) = true := by
  cases k
  case mbc1 => exact standBy_ite rfl rfl
  all_goals rfl

theorem standBy_ramSelectLines (k : Variant) (n : Byte) : standBy (ramSelectLines k n) = true := by
  cases k <;> rfl

theorem standBy_romBankLines (c : Bool) (n : Half) (base : Half) :
    standBy ((if c then [.call (.selectRomBank n)] else []) ++ [.blkLoop base 31, .nextRomBank]) = true := by
  cases c <;> rfl

theorem standBy_readByteLines (a : Half) (s : State) :
    standBy ([.set .wrN true, .set .rdN false, .call (.setAddress a)] ++ settleLines s
      ++ [.call .dbRead, .set .rdN true]) = true := by
  unfold settleLines
  split <;> rfl

/-! ## Every line -/

/-- `idle` stays in its control state until the row of the byte it took ends `INIT` in its stead (R92). -/
theorem ensures_execIdle (s : State) : Ensures (execIdle s) (Seals (.call .idle) s) := by
  unfold execIdle
  refine .serRead fun b rest => ?_
  have hrow : leavesInit (.call (decodeSync8 b)) = true := leavesInit_of_formatOf (formatOf_decodeSync8 b)
  have hspares : writesSession (.call (decodeSync8 b)) = false := writesSession_of_formatOf (formatOf_decodeSync8 b)
  refine .goesOn [.call (decodeSync8 b)] rfl rfl (fun rest h => ?_)
    fun _ => ⟨sparesSession_cons.mpr ⟨hspares, rfl⟩, rfl⟩
  exact (initOrder_cons_of_leavesInit rest hrow).trans (initOrder_cons_of_leavesInit (l := .call .idle) rest rfl ▸ h)

/-- `dispatch` enters `EXEC` with the row of the command byte (R93). -/
theorem ensures_execDispatch (s : State) : Ensures (execDispatch s) (Seals (.call .dispatch) s) := by
  unfold execDispatch
  refine .serRead fun b rest => ?_
  have hspares : writesSession (.call (decodeCmd8 b)) = false := writesSession_of_formatOf (formatOf_decodeCmd8 b)
  exact .endsInit [.call (decodeCmd8 b)] rfl (by simp) rfl (sparesSession_cons.mpr ⟨hspares, rfl⟩) rfl

/-- Every operation of the opcode table: `init`, `decode_header`, the accepted rows of the three codes and the reset are the
writers, the framer's rows end `INIT`, a fault drops what is pending, and every other one stands by. -/
theorem exec_seals (i : Instr) (s : State) : Ensures (exec i s) (Seals (.call i) s) := by
  cases i with
  | ackChunk | endBank => exact .serWrite (.held rfl rfl rfl rfl)
  | dbWrite | dbRead | toOutput | toInput => exact .ite (fun _ => .next (.held rfl rfl rfl rfl)) fun _ => .refused _
  | idle => exact ensures_execIdle s
  | dispatch => exact ensures_execDispatch s
  | sync | idleDiscard00 | idleDiscard80 | idleDiscardC0 | idleDiscardC8 | idleDiscardCB | idleDiscardCC | idleDiscardD0
  | idleDiscardE0 => exact .next (.endsInit [] rfl nofun rfl rfl rfl)
  | init | decodeHeader => exact .next (.written rfl rfl (fun _ h => h) rfl)
  | reset => exact .ite (fun _ => .next (.drops rfl nofun)) fun _ => .refused _
  | dumpHdr | dumpRom | dumpRam | flashRam | enableRam | disableRam | mbc1RomW1 | mbc1Ram | mbc2Rom | mbc3Rom
  | mbc3Ram | mbc5RomW1 | mbc5RomW2 | mbc5Ram | setAddress | shiftBit | writeByte | readBlock | delay =>
    exact .next (.entered rfl rfl rfl rfl rfl)
  | mbc1RomW2 => exact Seals.ensures_ite (.entered rfl rfl rfl rfl rfl) (.held rfl rfl rfl rfl)
  | readByte a => exact .next (.entered rfl rfl rfl (standBy_readByteLines a s) rfl)
  | selectRomBank n => exact .next (.entered rfl rfl rfl (standBy_romSelectLines s.variant n) rfl)
  | selectRamBank n => exact .next (.entered rfl rfl rfl (standBy_ramSelectLines s.variant n) rfl)
  | raiseFault c => exact .next (.takeFault _ c s)
  | romOnlyRom | romOnlyRam | mbc2Ram | ctypeInvalid04 | ctypeInvalid07 | ctypeInvalid08 | ctypeInvalid0C
  | ctypeInvalid0E | ctypeInvalid14 | ctypeInvalid18 | ctypeInvalid1F | ctypeInvalid20 | ctypeInvalid40 | ctypeInvalid80
  | romszInvalid09 | romszInvalid0A | romszInvalid0C | romszInvalid10 | romszInvalid20 | romszInvalid40 | romszInvalid80
  | ramszInvalid06 | ramszInvalid08 | ramszInvalid10 | ramszInvalid20 | ramszInvalid40 | ramszInvalid80 =>
    exact .next (.takeFault _ _ s)
  | nop03 | nop05 | nop06 | nop08 | nop10 | nop20 | nop40 | nop80 => exact .next (.held rfl rfl rfl rfl)
  | _ => exact .next (.written (ls := []) rfl rfl (fun _ h => h) rfl)

theorem ensures_lineSendHdr (s : State) : Ensures (lineSendHdr s) (Seals .sendHdr s) := by
  unfold lineSendHdr
  exact .serWrite (.ite (.entered rfl rfl rfl rfl rfl) (.held rfl rfl rfl rfl))

theorem ensures_lineSendBuf (s : State) : Ensures (lineSendBuf s) (Seals .sendBuf s) := by
  unfold lineSendBuf
  exact .serWrite (.ite (.entered rfl rfl rfl rfl rfl) (.held rfl rfl rfl rfl))

theorem ensures_lineRecvByte (s : State) : Ensures (lineRecvByte s) (Seals .recvByte s) := by
  unfold lineRecvByte
  exact .serRead fun _ _ => .ite (.entered rfl rfl rfl rfl rfl) (.held rfl rfl rfl rfl)

/-- Every pending line: beside the calls only the copy and the three decodes are writers. -/
theorem runLine_seals (l : Task) (s : State) : Ensures (runLine l s) (Seals l s) := by
  cases l with
  | call i => exact exec_seals i s
  | set p b => cases p <;> exact .next (.held rfl rfl rfl rfl)
  | sendHdr => exact ensures_lineSendHdr s
  | sendBuf => exact ensures_lineSendBuf s
  | recvByte => exact ensures_lineRecvByte s
  | copyHdr => exact .next (.written (ls := []) rfl rfl (fun _ h => h) rfl)
  | decodeMbc => exact .next (.decodes rfl rfl rfl rfl (formatOf_decodeCtype8 _) nofun)
  | decodeRomSize => exact .next (.decodes rfl rfl rfl rfl (formatOf_decodeRomsz8 _) nofun)
  | decodeRamSize => exact .next (.decodes rfl rfl rfl rfl (formatOf_decodeRamsz8 _) nofun)
  | toIdle => exact .next (.endsInit [] rfl nofun rfl rfl rfl)
  | romBank => exact Seals.ensures_ite (.entered rfl rfl rfl (standBy_romBankLines _ _ _) rfl) (.held rfl rfl rfl rfl)
  | nextBit | storeByte | nextRomBank | nextBlk | ramBank | nextRamBank | flashBank | nextFlashBank | nextChunk
  | nextWrite => exact Seals.ensures_ite (.entered rfl rfl rfl rfl rfl) (.held rfl rfl rfl rfl)
  | delayEnd => exact .next (.held rfl rfl rfl rfl)
  | blkLoop | sendLoop | chunkLoop | recvLoop | writeLoop | writeChunk => exact .next (.entered rfl rfl rfl rfl rfl)

/-! ## Every step -/

/-- What a control state with no line pending runs (R17). -/
def controlLine : Fsm → Task
  | .init => .call .init
  | .idle => .call .idle
  | .dispatch => .call .dispatch
  | .exec | .fault => .toIdle

theorem runControl_eq_runLine {s : State} (h : s.fsm ≠ .fault) : runControl s = runLine (controlLine s.fsm) s := by
  unfold runControl
  cases hf : s.fsm
  case fault => exact absurd hf h
  all_goals rfl

/-- The line of a control state is sealed where nothing is pending. -/
theorem sessionSealed_controlLine (s : State) : sessionSealed { s with work := [controlLine s.fsm] } = true := by
  unfold sessionSealed
  cases s.fsm <;> rfl

/-- In a running block a step runs one line, which is as sealed as what was pending. -/
theorem step_runs_sealed {s : State} (hr : running s = true) (hs : sessionSealed s = true) :
    ∃ l ls, step s = runLine l { s with work := ls } ∧ sessionSealed { s with work := l :: ls } = true := by
  cases hw : s.work with
  | nil =>
    have hnil : { s with work := [] } = s := by rw [← hw]
    have hstep : step s = runLine (controlLine s.fsm) s :=
      (step_control hr hw).trans (runControl_eq_runLine (running_iff.mp hr).2)
    exact ⟨controlLine s.fsm, [], hnil.symm ▸ hstep, sessionSealed_controlLine s⟩
  | cons l ls => exact ⟨l, ls, step_line hr hw, hw ▸ hs⟩

/-- A step that answers with `RST` released was taken by a running block. -/
theorem running_of_step {s t : State} (hrst : s.rst = false) (h : step s = .next t) : running s = true := by
  refine running_iff.mpr ⟨hrst, fun hfsm => ?_⟩
  rw [step_of_fault hrst hfsm] at h
  cases h

/-- Settles O54: the line a step runs keeps the position sealed, and the reset leaves nothing pending. -/
theorem sessionSealedKept : Obligations.SessionSealedKept := by
  intro s t hs hstep
  cases hrst : s.rst with
  | true =>
    have hreset : Ensures (exec .reset s) fun t => sessionSealed t = true := .ite (fun _ => .next rfl) fun _ => .refused _
    exact hreset t (step_of_rst hrst ▸ hstep)
  | false =>
    obtain ⟨l, ls, hline, hsealed⟩ := step_runs_sealed (running_of_step hrst hstep) hs
    exact (runLine_seals l _ t (hline.symm.trans hstep)).sessionSealed hsealed

/-- Settles O55: outside `INIT` the line a step runs is none of the writers. -/
theorem sessionImmutable : Obligations.SessionImmutable := by
  intro s t hs hfsm hrst hstep
  obtain ⟨l, ls, hline, hsealed⟩ := step_runs_sealed (running_of_step hrst hstep) hs
  have hl : writesSession l = false := (sparesSession_cons.mp ((sessionSealed_iff.mp hsealed).2 hfsm)).1
  have hkept := (runLine_seals l _ t (hline.symm.trans hstep)).session_eq hl
  exact Session.mk.inj hkept

/-! ## The three decodes -/

/-- The row of a type code does what `variantOf` says (R51, R87). -/
theorem exec_decodeCtype8 {t : Byte} {o : Option Variant} (h : variantOf t = o) (s : State) :
    exec (decodeCtype8 t) s = .next (o.elim (takeFault .unknownCartridgeType s) fun k => { s with variant := k }) := by
  rw [← h, cartridgeTypeRows t s, variantOf]
  split_ifs <;> rfl

/-- The row of a ROM size code does what `romBanksFor` says (R52, R88). -/
theorem exec_decodeRomsz8 {c : Byte} {o : Option (BitVec 10)} (h : romBanksFor c = o) (s : State) :
    exec (decodeRomsz8 c) s = .next (o.elim (takeFault .romSizeOutOfRange s) fun n => { s with romBanks := n }) := by
  rw [← h, romBanksFor]
  split_ifs with hc
  · exact exec_decodeRomsz8_of_le hc s
  · exact exec_decodeRomsz8_of_not_le hc s

/-- The row of a RAM size code does what `ramBanksFor` says (R53, R89). -/
theorem exec_decodeRamsz8 {r : Byte} {o : Option (BitVec 5)} (h : ramBanksFor r = o) (s : State) :
    exec (decodeRamsz8 r) s = .next (o.elim (takeFault .unknownRamSize s) fun m => { s with ramBanks := m }) := by
  rw [← h, ramSizeRows r s, ramBanksFor, ite_or]
  split_ifs <;> rfl

section
variable {s : State} {k : Variant} {n : BitVec 10} {m : BitVec 5}

theorem afterDecode_of_variantOf_eq_none (hk : variantOf (cartridgeType s) = none) :
    afterDecode s = takeFault .unknownCartridgeType s := by
  simp only [afterDecode, hk]

theorem afterDecode_of_romBanksFor_eq_none (hk : variantOf (cartridgeType s) = some k)
    (hn : romBanksFor (romSize s) = none) :
    afterDecode s = takeFault .romSizeOutOfRange { s with variant := k } := by
  simp only [afterDecode, hk, hn]

theorem afterDecode_of_ramBanksFor_eq_none (hk : variantOf (cartridgeType s) = some k)
    (hn : romBanksFor (romSize s) = some n) (hm : ramBanksFor (ramSize s) = none) :
    afterDecode s = takeFault .unknownRamSize { s with variant := k, romBanks := n } := by
  simp only [afterDecode, hk, hn, hm]

theorem afterDecode_of_eq_some (hk : variantOf (cartridgeType s) = some k) (hn : romBanksFor (romSize s) = some n)
    (hm : ramBanksFor (ramSize s) = some m) :
    afterDecode s = { s with variant := k, romBanks := n, ramBanks := m } := by
  simp only [afterDecode, hk, hn, hm]

end

/-- A pending decode: its line enters the row of the code, and the row is run, then a run. -/
theorem Reaches.decode {s t u : State} {l : Task} {i : Instr} {ls : List Task} (hr : running s = true)
    (hw : s.work = l :: ls) (hl : runLine l { s with work := ls } = .next (enter [.call i] { s with work := ls }))
    (hi : exec i { s with work := ls } = .next t) (r : Reaches t u) : Reaches s u :=
  .line hr hw hl (.line hr rfl hi r)

/-- The three decodes in their order; the fault of the first that fails drops the others (R90, R103). -/
theorem completes_decodeHeader {s : State} (hr : running s = true) : Completes .decodeHeader s (afterDecode s) := by
  refine ⟨_, rfl, ?_⟩
  cases hk : variantOf (cartridgeType s) with
  | none =>
    rw [afterDecode_of_variantOf_eq_none hk]
    exact .decode hr rfl rfl (exec_decodeCtype8 hk _) (.refl _)
  | some k =>
    refine .decode (t := { s with variant := k, work := _ }) hr rfl rfl (exec_decodeCtype8 hk _) ?_
    cases hn : romBanksFor (romSize s) with
    | none =>
      rw [afterDecode_of_romBanksFor_eq_none hk hn]
      exact .decode hr rfl rfl (exec_decodeRomsz8 hn _) (.refl _)
    | some n =>
      refine .decode (t := { s with variant := k, romBanks := n, work := _ }) hr rfl rfl (exec_decodeRomsz8 hn _) ?_
      cases hm : ramBanksFor (ramSize s) with
      | none =>
        rw [afterDecode_of_ramBanksFor_eq_none hk hn hm]
        exact .decode hr rfl rfl (exec_decodeRamsz8 hm _) (.refl _)
      | some m =>
        rw [afterDecode_of_eq_some hk hn hm]
        exact .decode hr rfl rfl (exec_decodeRamsz8 hm _) (.refl _)

/-- Settles O38: the run of the three decodes ends in `afterDecode`. -/
theorem decodeHeader : Obligations.DecodeHeader := fun _ => completes_decodeHeader

/-! ## The whole of `init` -/

/-- A decode that fails takes one of three faults, whatever is pending; where none fails, the decodes write the session's
registers and leave what is pending there (R90). -/
theorem afterDecode_cases (s : State) :
    (∃ c k n, c ≠ .unsupportedOperation
        ∧ ∀ ls, afterDecode { s with work := ls } = takeFault c { s with variant := k, romBanks := n })
      ∨ ∃ k n m, ∀ ls, afterDecode { s with work := ls } =
          { s with work := ls, variant := k, romBanks := n, ramBanks := m } := by
  cases hk : variantOf (cartridgeType s) with
  | none =>
    exact .inl ⟨.unknownCartridgeType, s.variant, s.romBanks, nofun, fun _ => afterDecode_of_variantOf_eq_none hk⟩
  | some k =>
    cases hn : romBanksFor (romSize s) with
    | none => exact .inl ⟨.romSizeOutOfRange, k, s.romBanks, nofun, fun _ => afterDecode_of_romBanksFor_eq_none hk hn⟩
    | some n =>
      cases hm : ramBanksFor (ramSize s) with
      | none => exact .inl ⟨.unknownRamSize, k, n, nofun, fun _ => afterDecode_of_ramBanksFor_eq_none hk hn hm⟩
      | some m => exact .inr ⟨k, n, m, fun _ => afterDecode_of_eq_some hk hn hm⟩

/-- The end of `init`: `IDLE`, unless a decode has failed (R86). -/
def toIdleUnlessFault (s : State) : State := if s.fsm = .fault then s else { s with fsm := .idle }

/-- `hdr[i] <- buf[0x100 + i]` (R86). -/
def storeHeader (s : State) : State := { s with hdr := copyHeader s.buf 64 s.hdr }

theorem afterInit_eq (s : State) :
    afterInit s = toIdleUnlessFault (afterDecode (storeHeader (afterBlock 0 s))) := rfl

/-- After the decodes the line behind them runs, unless a fault has dropped it (R86, R103). -/
theorem reaches_toIdleUnlessFault {s : State} (hr : running s = true) :
    Reaches (afterDecode { s with work := .toIdle :: s.work }) (toIdleUnlessFault (afterDecode s)) := by
  have hfsm : s.fsm ≠ .fault := (running_iff.mp hr).2
  obtain ⟨c, k, n, -, h⟩ | ⟨k, n, m, h⟩ := afterDecode_cases s
  · have hs : afterDecode s = _ := h s.work
    rw [hs, h]
    exact .refl _
  · have hs : afterDecode s = _ := h s.work
    rw [hs, h, toIdleUnlessFault, if_neg hfsm]
    exact .line hr rfl rfl (.refl _)

theorem lineCopyHdr_eq (s : State) : lineCopyHdr s = .next (storeHeader s) := by
  rw [lineCopyHdr, storeHeader, Config.headerLen]

/-- The lines of `init` behind the block: the copy, the decodes, `IDLE` (R86). -/
theorem reaches_headerDecoded {s : State} (hr : running s = true) :
    Reaches { s with work := .copyHdr :: .call .decodeHeader :: .toIdle :: s.work }
      (toIdleUnlessFault (afterDecode (storeHeader s))) := by
  refine .line hr rfl (lineCopyHdr_eq _) ?_
  unfold storeHeader
  generalize copyHeader _ 64 _ = hdr
  exact .call hr rfl (completes_decodeHeader hr) (reaches_toIdleUnlessFault (s := { s with hdr := hdr }) hr)

/-- The turns of a block do not look at what is pending. -/
theorem afterBytes_work (a : Half) (n : Nat) (ls : List Task) (s : State) :
    afterBytes a n { s with work := ls } = { afterBytes a n s with work := ls } := by
  induction n with
  | zero => rfl
  | succ n ih => rw [afterBytes_succ, afterBytes_succ, ih]; rfl

theorem afterBlock_work (a : Half) (ls : List Task) (s : State) :
    afterBlock a { s with work := ls } = { afterBlock a s with work := ls } := by
  unfold afterBlock
  rw [afterBytes_work]

theorem afterBlock_running (a : Half) (s : State) : running (afterBlock a s) = running s := by
  have h := afterBytes_running a 512 s
  unfold afterBlock
  generalize afterBytes a 512 s = u at h ⊢
  exact h

theorem afterBlock_frame (a : Half) (s : State) :
    (afterBlock a s).work = s.work ∧ (afterBlock a s).hdr = s.hdr ∧ (afterBlock a s).rx = s.rx
      ∧ (afterBlock a s).tx = s.tx ∧ (afterBlock a s).fault = s.fault := by
  have h := afterBytes_frame a 512 s
  unfold afterBlock
  generalize afterBytes a 512 s = u at h ⊢
  rw [h]
  exact ⟨rfl, rfl, rfl, rfl, rfl⟩

theorem completes_readBlock_work (a : Half) (ls : List Task) {s : State} (hr : running s = true) (hclk : s.srClk = false)
    (hdir : s.dir = .input) : Completes (.readBlock a) { s with work := ls } { afterBlock a s with work := ls } := by
  rw [← afterBlock_work]
  exact completes_readBlock a hr hclk hdir

/-- The block, then the lines behind it (R86). -/
theorem completes_init {s : State} (hr : running s = true) (hclk : s.srClk = false) (hdir : s.dir = .input) :
    Completes .init s (afterInit s) := by
  have hrb : running (afterBlock 0 s) = true := (afterBlock_running 0 s).trans hr
  have hwork : (afterBlock 0 s).work = s.work := (afterBlock_frame 0 s).1
  rw [afterInit_eq]
  have hblock := completes_readBlock_work 0 (.copyHdr :: .call .decodeHeader :: .toIdle :: s.work) hr hclk hdir
  refine ⟨_, rfl, .call hr rfl hblock ?_⟩
  generalize afterBlock 0 s = b at hrb hwork
  rw [← hwork]
  exact reaches_headerDecoded hrb

/-- Settles O39: the run of `init`'s lines ends in `afterInit`. -/
theorem init : Obligations.Init := fun _ => completes_init

/-! ## The header record -/

/-- `init` ends in `IDLE` with the session read, or in `FAULT` with a decode's fault; either way with the record stored and
nothing else decided by the decodes (R86, R90). -/
theorem afterInit_cases {s : State} (hr : running s = true) :
    (∃ c k n, c ≠ .unsupportedOperation
        ∧ afterInit s = takeFault c { storeHeader (afterBlock 0 s) with variant := k, romBanks := n })
      ∨ ∃ k n m, afterInit s =
          { storeHeader (afterBlock 0 s) with variant := k, romBanks := n, ramBanks := m, fsm := .idle } := by
  have hfsm : (storeHeader (afterBlock 0 s)).fsm ≠ .fault := by
    simpa only [storeHeader] using (running_iff.mp ((afterBlock_running 0 s).trans hr)).2
  rw [afterInit_eq]
  generalize storeHeader (afterBlock 0 s) = u at hfsm
  refine (afterDecode_cases u).imp ?_ ?_
  · rintro ⟨c, k, n, hc, h⟩
    exact ⟨c, k, n, hc, congrArg toIdleUnlessFault (h u.work)⟩
  · rintro ⟨k, n, m, h⟩
    exact ⟨k, n, m, (congrArg toIdleUnlessFault (h u.work)).trans (if_neg hfsm)⟩

theorem faultNumber_of_ne_unsupportedOperation {c : FaultCode} (h : c ≠ .unsupportedOperation) :
    faultNumber c = 2 ∨ faultNumber c = 4 ∨ faultNumber c = 3 := by
  cases c with
  | unsupportedOperation => exact absurd rfl h
  | unknownCartridgeType => exact .inl rfl
  | romSizeOutOfRange => exact .inr (.inl rfl)
  | unknownRamSize => exact .inr (.inr rfl)

/-- The record is the 64 bytes of `buf` from 0x100 on (R86). -/
theorem bytesOf_storeHeader {s : State} (h : Memory.wf s.hdr = true) :
    bytesOf (storeHeader s).hdr 64 = ((bytesOf s.buf 512).drop 256).take 64 := by
  apply List.ext_getElem
  · simp [bytesOf]
  · intro i hi _
    have hlt : i < 64 := by simpa [bytesOf] using hi
    simp [bytesOf, storeHeader, copyHeader_read 64 i h hlt, Config.headerBase]

theorem afterBlock_answers (a : Half) {s : State} {bs rest : List Byte} (h : Memory.wf s.buf = true)
    (hlen : bs.length = 512) (hans : s.answers = bs ++ rest) :
    bytesOf (afterBlock a s).buf 512 = bs ∧ (afterBlock a s).answers = rest := by
  have htakes := afterBytes_takes a h hlen hans
  unfold afterBlock
  generalize afterBytes a 512 s = u at htakes ⊢
  exact htakes

/-- What the copy leaves as it was. -/
theorem storeHeader_frame (s : State) :
    (storeHeader s).answers = s.answers ∧ (storeHeader s).rx = s.rx ∧ (storeHeader s).tx = s.tx
      ∧ (storeHeader s).fault = s.fault := by
  unfold storeHeader
  exact ⟨rfl, rfl, rfl, rfl⟩

/-- Settles O40: the record is copied out of the block, which holds the answers. -/
theorem bootStoresHeader : Obligations.BootStoresHeader := by
  intro s bs rest hr hclk hdir hfault hmem hlen hans
  obtain ⟨s1, hexec, hrun⟩ := completes_init hr hclk hdir
  simp only [memoriesCanonical, Bool.and_eq_true] at hmem
  obtain ⟨⟨hbuf, -⟩, hhdr⟩ := hmem
  obtain ⟨hbytes, hrest⟩ := afterBlock_answers 0 hbuf hlen hans
  obtain ⟨-, hhdrKept, hrx, htx, hfaultKept⟩ := afterBlock_frame 0 s
  have hrecord := bytesOf_storeHeader (s := afterBlock 0 s) (by rw [hhdrKept]; exact hhdr)
  have hframe := storeHeader_frame (afterBlock 0 s)
  rw [hrest, hrx, htx, hfaultKept, hfault] at hframe
  rw [hbytes] at hrecord
  have hends := afterInit_cases hr
  generalize storeHeader (afterBlock 0 s) = u at hrecord hframe hends
  obtain ⟨hrest, hrx, htx, hfault⟩ := hframe
  refine ⟨s1, _, hexec, hrun, ?_⟩
  obtain ⟨c, k, n, hc, h⟩ | ⟨k, n, m, h⟩ := hends
  · rw [h]
    exact ⟨hrecord, hrest, hrx, htx, .inr ⟨rfl, rfl, faultNumber_of_ne_unsupportedOperation hc⟩⟩
  · rw [h]
    exact ⟨hrecord, hrest, hrx, htx, .inl ⟨rfl, hfault⟩⟩

end Sys2Proof.Machine

/-! PROOFS of the command framer's statements (`45_command_framer.md`: R92-R98). A stretch of pseudocode is one `Leads`: its
lines lead from one state to another, whatever stands behind them. Every loop is `Leads.loop` over the state at the start of
each turn. What a command keeps is said by blanking what it writes, and what FlashRam receives, sends and drives by the
relation `Flashes`. -/

namespace Sys2Proof.Machine

/-! ## The rows of one byte -/

/-- Only the sync byte's row leads to `DISPATCH`; each of the others discards its byte (R92). -/
theorem exec_decodeSync8 (b : Byte) (s : State) :
    exec (decodeSync8 b) s = .next { s with fsm := if b = 0xCA then .dispatch else .idle } := by
  unfold decodeSync8
  split
  next => rfl
  next =>
    repeat' apply exec_ite
    all_goals rfl

/-- Settles O41: the byte is taken, then the row it matches runs. -/
theorem idleScan : Obligations.IdleScan := fun _ _ _ hr hrx =>
  ⟨_, serRead_cons _ hrx, .line hr rfl (exec_decodeSync8 _ _) (.refl _)⟩

/-- Settles O14: with the four commands ruled out, every row that is left does nothing. -/
theorem noOpRows : Obligations.NoOpRows := by
  intro b s h0 h1 h2 h4
  simp only [decodeCmd8, h0, h1, h2, h4, if_false]
  repeat' apply exec_ite
  all_goals rfl

/-- Settles O42: the row is `decodeCmd8`'s. -/
theorem dispatchCommand : Obligations.DispatchCommand := by
  intro s b r hrx
  have hexec : execDispatch s = _ := serRead_cons _ hrx
  refine ⟨decodeCmd8 b, hexec, ?_, ?_, ?_, ?_, fun h0 h1 h2 h4 t => noOpRows b t h0 h1 h2 h4⟩
  all_goals rintro rfl; rfl

/-! ## Stretches of pseudocode -/

/-- The state with these lines pending. -/
def State.pend (ls : List Task) (s : State) : State := { s with work := ls }

/-- From `s` with the lines `ls` pending the machine runs to `t` with `ls'` pending, whatever stands behind them, and what
`P` says of `s` it says of `t`. -/
def Leads (P : State → Prop) (ls : List Task) (s : State) (ls' : List Task) (t : State) : Prop :=
  P s → P t ∧ ∀ rest, Reaches (s.pend (ls ++ rest)) (t.pend (ls' ++ rest))

section
variable {P : State → Prop} {s t u : State} {ls ls' ls'' : List Task}

theorem Leads.refl (P : State → Prop) (ls : List Task) (s : State) : Leads P ls s ls s := fun hs =>
  ⟨hs, fun _ => .refl _⟩

theorem Leads.trans (h : Leads P ls s ls' t) (h' : Leads P ls' t ls'' u) : Leads P ls s ls'' u := fun hs =>
  have ⟨ht, hrun⟩ := h hs
  have ⟨hu, hrun'⟩ := h' ht
  ⟨hu, fun rest => (hrun rest).trans (hrun' rest)⟩

/-- More lines behind those that run. -/
theorem Leads.append (h : Leads P ls s ls' t) (ks : List Task) : Leads P (ls ++ ks) s (ls' ++ ks) t := fun hs =>
  have ⟨ht, hrun⟩ := h hs
  ⟨ht, fun rest => by simpa only [List.append_assoc] using hrun (ks ++ rest)⟩

/-- A first line that runs to its end, then the lines behind it. -/
theorem Leads.cons {l : Task} (h : Leads P [l] s [] t) (h' : Leads P ls t ls' u) : Leads P (l :: ls) s ls' u :=
  (h.append ls).trans h'

/-- One line. -/
theorem Leads.line {l : Task} (h : P s → running s = true ∧ P t ∧
    ∀ rest, runLine l (s.pend rest) = .next (t.pend (ls ++ rest))) : Leads P [l] s ls t := fun hs =>
  have ⟨hr, ht, hline⟩ := h hs
  ⟨ht, fun rest => .line hr rfl (hline rest) (.refl _)⟩

/-- A call of an operation that completes. -/
theorem Leads.call {i : Instr} (h : P s → running s = true ∧ P t ∧
    ∀ rest, Completes i (s.pend rest) (t.pend rest)) : Leads P [.call i] s [] t := fun hs =>
  have ⟨hr, ht, hcall⟩ := h hs
  ⟨ht, fun rest => .call hr rfl (hcall rest) (.refl _)⟩

/-- A loop: from the start of each turn up to number `k` to the start of the next, and from that of turn `k` to the end. -/
theorem Leads.loop {body : Nat → List Task} {f : Nat → State} {k : Nat}
    (again : ∀ n < k, Leads P (body n) (f n) (body (n + 1)) (f (n + 1))) (last : Leads P (body k) (f k) ls t) :
    Leads P (body 0) (f 0) ls t := by
  induction k with
  | zero => exact last
  | succ k ih => exact ih (fun n hn => again n (by omega)) ((again k (by omega)).trans last)

/-- The same stretch under another condition. -/
theorem Leads.imp {Q : State → Prop} (h : Leads P ls s ls' t) (hPQ : Q s → P s) (hQ : Q s → Q t) :
    Leads Q ls s ls' t :=
  fun hs => ⟨hQ hs, (h (hPQ hs)).2⟩

/-- Lines just entered run to where they lead, if that leaves what was pending before as it was. -/
theorem Leads.reaches (h : Leads P ls s [] t) (hs : P s) (hwork : t.work = s.work) :
    Reaches (enter ls s) t := by
  obtain ⟨-, hrun⟩ := h hs
  exact (hrun s.work).trans (.of_eq (by cases t; cases hwork; rfl))

end

/-! ## Sending -/

/-- What sending relies on: the sequencer runs and the transport accepts. -/
def Sends (s : State) : Prop := running s = true ∧ s.txReady = true

/-- One turn of a loop that sends the bytes of a memory up to number `last` (R95, R96, R97). -/
def sendTurn (l : Task) (m : Memory) (last : BitVec 9) (s : State) : Out :=
  serWrite (Memory.read m s.idx.toNat) s fun t => if t.idx < last then enter [l] { t with idx := t.idx + 1 } else t

theorem lineSendHdr_eq (s : State) : lineSendHdr s = sendTurn .sendHdr s.hdr 63 s := rfl

theorem lineSendBuf_eq (s : State) : lineSendBuf s = sendTurn .sendBuf s.buf 511 s := rfl

/-- The state with `idx` at number `n`. -/
def State.atIdx (n : Nat) (s : State) : State := { s with idx := BitVec.ofNat 9 n }

/-- With `n` bytes of a memory sent, byte `n` is next. -/
def sent (m : Memory) (n : Nat) (s : State) : State := (afterSends (bytesOf m n) s).atIdx n

theorem sent_zero (m : Memory) (s : State) : sent m 0 s = s.atIdx 0 := by
  simp [sent, State.atIdx, afterSends, bytesOf, happened]

theorem bytesOf_succ (m : Memory) (n : Nat) : bytesOf m (n + 1) = bytesOf m n ++ [Memory.read m n] := by
  simp [bytesOf, List.range_succ]

theorem afterSends_append (bs cs : List Byte) (s : State) :
    afterSends (bs ++ cs) s = afterSends cs (afterSends bs s) := by
  simp [afterSends, happened]

theorem sent_succ (m : Memory) (n : Nat) (s : State) :
    sent m (n + 1) s = (afterSends [Memory.read m n] (sent m n s)).atIdx (n + 1) := by
  rw [sent, bytesOf_succ, afterSends_append]
  rfl

/-- A `SerWrite` the transport accepts. -/
theorem serWrite_sends {s : State} (b : Byte) (k : State → State) (h : s.txReady = true) :
    serWrite b s k = .next (k (afterSends [b] s)) :=
  serWrite_ready b k h

/-- Up to the last turn, a loop register holds the number of the turn. -/
theorem toNat_turn {w n : Nat} {last : BitVec w} (hn : n ≤ last.toNat) : (BitVec.ofNat w n).toNat = n :=
  Nat.mod_eq_of_lt (by omega)

theorem turn_lt_iff {w n : Nat} {last : BitVec w} (hn : n ≤ last.toNat) :
    BitVec.ofNat w n < last ↔ n < last.toNat := by
  rw [BitVec.lt_def, toNat_turn hn]

theorem turn_succ (w n : Nat) : BitVec.ofNat w n + 1 = BitVec.ofNat w (n + 1) := (BitVec.ofNat_add ..).symm

/-- A turn before the last sends its byte and enters the next turn. -/
theorem sendTurn_of_lt (l : Task) (m : Memory) {last : BitVec 9} {n : Nat} {s : State} (hready : s.txReady = true)
    (hidx : s.idx = BitVec.ofNat 9 n) (hn : n < last.toNat) :
    sendTurn l m last s = .next (enter [l] ((afterSends [Memory.read m n] s).atIdx (n + 1))) := by
  rw [sendTurn, serWrite_sends _ _ hready, hidx, toNat_turn hn.le]
  simp only [afterSends, hidx, (turn_lt_iff hn.le).mpr hn, if_true, State.atIdx, turn_succ]

/-- The last turn sends its byte. -/
theorem sendTurn_last (l : Task) (m : Memory) {last : BitVec 9} {s : State} (hready : s.txReady = true)
    (hidx : s.idx = BitVec.ofNat 9 last.toNat) :
    sendTurn l m last s = .next (afterSends [Memory.read m last.toNat] s) := by
  rw [sendTurn, serWrite_sends _ _ hready, hidx, toNat_turn le_rfl]
  simp only [afterSends, hidx, (turn_lt_iff le_rfl).not.mpr (lt_irrefl _), if_false]

/-- The loop sends the bytes in ascending order, from number 0 to number `last`. -/
theorem leads_sends {l : Task} {m : Memory} {last : BitVec 9} {s : State}
    (hl : ∀ n rest, runLine l ((sent m n s).pend rest) = sendTurn l m last ((sent m n s).pend rest)) :
    Leads Sends [l] (s.atIdx 0) [] ((afterSends (bytesOf m (last.toNat + 1)) s).atIdx last.toNat) := by
  rw [← sent_zero m s, bytesOf_succ, afterSends_append]
  refine .loop (body := fun _ => [l]) (f := fun n => sent m n s) (k := last.toNat)
    (fun n hn => .line fun hs => ⟨hs.1, hs, fun rest => ?_⟩) (.line fun hs => ⟨hs.1, hs, fun rest => ?_⟩)
  · rw [sent_succ]
    exact (hl n rest).trans (sendTurn_of_lt l m (s := (sent m n s).pend rest) hs.2 rfl hn)
  · exact (hl _ rest).trans (sendTurn_last l m (s := (sent m last.toNat s).pend rest) hs.2 rfl)

/-- Settles O44: the loop over the record. -/
theorem dumpHeader : Obligations.DumpHeader := by
  intro s hr hready
  have hloop : Leads Sends [.sendHdr] (s.atIdx 0) [] _ := leads_sends (m := s.hdr) (last := 63) fun _ _ => lineSendHdr_eq _
  exact ⟨_, _, rfl, hloop.reaches ⟨hr, hready⟩ rfl⟩

/-! ## What a dump relies on and what it keeps -/

/-- What the lines of the commands rely on where they access the cartridge: the sequencer runs, the clock rests low, the
data lines are inputs and the transport accepts. -/
def Ready (s : State) : Prop := running s = true ∧ s.srClk = false ∧ s.dir = .input ∧ s.txReady = true

section
variable {s : State}

theorem Ready.running (hs : Ready s) : running s = true := hs.1

theorem Ready.clkLow (hs : Ready s) : s.srClk = false := hs.2.1

theorem Ready.dirIn (hs : Ready s) : s.dir = .input := hs.2.2.1

theorem Ready.txReady (hs : Ready s) : s.txReady = true := hs.2.2.2

end

/-- A state with the registers of a bus access blanked: what is left is what a bus access keeps (R65, R66). -/
def State.offBus (s : State) : State :=
  { s with
    areg := 0, dreg := 0, bitn := 0, srData := false, srClk := false, srLatch := false, rdN := false, wrN := false
    dir := .input, dqOut := 0, extQ := 0, extA := 0, tmr := 0, trace := [] }

/-- The same with the loop registers of a dump, `buf`, the answers and what is sent blanked too (R96, R97). -/
def State.offDump (s : State) : State :=
  { s.offBus with bank := 0, blk := 0, idx := 0, buf := [], answers := [], tx := [] }

theorem ready_afterWrite (a : Half) (v : Byte) {s : State} (hs : Ready s) : Ready (afterWrite a v s) :=
  ⟨hs.running, rfl, rfl, hs.txReady⟩

/-- What a block leaves as it was, the loop registers of the commands but `idx` among it (R67). -/
theorem afterBlock_kept (a : Half) (s : State) :
    (afterBlock a s).offDump = s.offDump ∧ (afterBlock a s).blk = s.blk ∧ (afterBlock a s).bank = s.bank
      ∧ (afterBlock a s).idx = BitVec.ofNat 9 511 := by
  have h := afterBytes_frame a 512 s
  unfold afterBlock
  generalize afterBytes a 512 s = u at h ⊢
  rw [h]
  exact ⟨rfl, rfl, rfl, rfl⟩

/-- What is read off a state kept by a dump. -/
theorem kept_of_offDump {s t : State} (h : t.offDump = s.offDump) :
    t.work = s.work ∧ t.txReady = s.txReady ∧ t.variant = s.variant ∧ t.romBanks = s.romBanks
      ∧ t.ramBanks = s.ramBanks :=
  ⟨(congrArg State.work h :), (congrArg State.txReady h :), (congrArg State.variant h :),
    (congrArg State.romBanks h :), (congrArg State.ramBanks h :)⟩

theorem ready_afterBlock (a : Half) {s : State} (hs : Ready s) : Ready (afterBlock a s) := by
  obtain ⟨hr, hclk, hdir, hready⟩ := hs
  have hr' := (afterBlock_running a s).trans hr
  have hclk' := afterBytes_srClk a 512 hclk
  have hdir' := (afterBytes_dir a 512 s).trans hdir
  obtain ⟨-, hready', -⟩ := kept_of_offDump (afterBlock_kept a s).1
  unfold afterBlock at *
  generalize afterBytes a 512 s = u at *
  exact ⟨hr', hclk', hdir', hready'.trans hready⟩

theorem leads_readBlock (a : Half) (s : State) : Leads Ready [.call (.readBlock a)] s [] (afterBlock a s) :=
  .call fun hs => ⟨hs.running, ready_afterBlock a hs, fun rest =>
    completes_readBlock_work a rest hs.running hs.clkLow hs.dirIn⟩

/-- `for idx in 0 .. 511: SerWrite(buf[idx])` (R96, R97). -/
theorem leads_sendLoop (s : State) :
    Leads Ready [.sendLoop] s [] ((afterSends (bytesOf s.buf 512) s).atIdx 511) := by
  have henter : Leads Ready [.sendLoop] s [.sendBuf] (s.atIdx 0) := .line fun hs => ⟨hs.running, hs, fun _ => rfl⟩
  have hloop : Leads Sends [.sendBuf] (s.atIdx 0) [] _ := leads_sends (m := s.buf) (last := 511) fun _ _ => lineSendBuf_eq _
  exact henter.trans (hloop.imp (fun hs => ⟨hs.running, hs.txReady⟩) fun hs => hs)

/-! ## The blocks of a bank -/

theorem atIdx_of_idx {n : Nat} {s : State} (h : s.idx = BitVec.ofNat 9 n) : s.atIdx n = s := by
  cases s
  cases h
  rfl

/-- What sending leaves as it was. -/
theorem afterSends_kept (bs : List Byte) (s : State) :
    (afterSends bs s).offDump = s.offDump ∧ (afterSends bs s).blk = s.blk ∧ (afterSends bs s).bank = s.bank :=
  ⟨rfl, rfl, rfl⟩

theorem afterDumpBlock_kept (a : Half) (s : State) :
    (afterDumpBlock a s).offDump = s.offDump ∧ (afterDumpBlock a s).blk = s.blk
      ∧ (afterDumpBlock a s).bank = s.bank := by
  obtain ⟨hkept, hblk, hbank, -⟩ := afterBlock_kept a s
  unfold afterDumpBlock
  rw [← hkept, ← hblk, ← hbank]
  exact afterSends_kept _ _

/-- One block: read whole, then sent whole (R96, R97). -/
theorem leads_dumpBlock (a : Half) (s : State) :
    Leads Ready [.call (.readBlock a), .sendLoop] s [] (afterDumpBlock a s) := by
  have hread := leads_readBlock a s
  obtain ⟨-, -, -, hidx⟩ := afterBlock_kept a s
  unfold afterDumpBlock
  generalize afterBlock a s = u at hread hidx ⊢
  have hsend := leads_sendLoop u
  rw [atIdx_of_idx (s := afterSends _ u) hidx] at hsend
  exact .cons hread hsend

/-- The state with `blk` at number `n`. -/
def State.atBlk (n : Nat) (s : State) : State := { s with blk := BitVec.ofNat 5 n }

/-- Block `n` of a bank is one more block of the dump. -/
theorem afterDumpBlocks_succ (base : Half) (n : Nat) (s : State) :
    afterDumpBlocks base (n + 1) s =
      afterDumpBlock (base + BitVec.ofNat 16 (n * 512)) ((afterDumpBlocks base n s).atBlk n) := rfl

theorem afterDumpBlocks_kept (base : Half) (n : Nat) (s : State) :
    (afterDumpBlocks base n s).offDump = s.offDump ∧ (afterDumpBlocks base n s).bank = s.bank := by
  induction n with
  | zero => exact ⟨rfl, rfl⟩
  | succ n ih =>
    rw [afterDumpBlocks_succ]
    generalize afterDumpBlocks base n s = u at ih ⊢
    obtain ⟨hkept, -, hbank⟩ := afterDumpBlock_kept (base + BitVec.ofNat 16 (n * 512)) (u.atBlk n)
    exact ⟨hkept.trans ih.1, hbank.trans ih.2⟩

/-- The lines of turn `n` of the loop over `blk` (R96, R97). -/
def blkTurn (base : Half) (last : BitVec 5) (n : Nat) : List Task :=
  [.call (.readBlock (base + BitVec.ofNat 16 (n * 512))), .sendLoop, .nextBlk base last]

theorem blkLines_atBlk (base : Half) {last : BitVec 5} {n : Nat} (hn : n ≤ last.toNat) (s : State) :
    blkLines base last (s.atBlk n) = blkTurn base last n := by
  have haddr : blkBase base (BitVec.ofNat 5 n) = base + BitVec.ofNat 16 (n * 512) := by
    have hn32 : n < 32 := by omega
    have hmul : (BitVec.ofNat 5 n).setWidth 16 * 512 = BitVec.ofNat 16 (n * 512) := by bv_omega
    rw [blkBase, hmul]
  rw [blkTurn, ← haddr]
  rfl

/-- Before the last block the end of a turn enters the next one (R96, R97). -/
theorem leads_nextBlk_of_lt (base : Half) {last : BitVec 5} {n : Nat} {s : State} (hblk : s.blk = BitVec.ofNat 5 n)
    (hn : n < last.toNat) : Leads Ready [.nextBlk base last] s (blkTurn base last (n + 1)) (s.atBlk (n + 1)) := by
  refine .line fun hs => ⟨hs.running, hs, fun rest => ?_⟩
  rw [← blkLines_atBlk base (n := n + 1) hn s]
  simp only [runLine, lineNextBlk, State.pend, hblk, (turn_lt_iff hn.le).mpr hn, if_true, turn_succ]
  rfl

/-- After the last block the end of a turn is the end of the loop (R96, R97). -/
theorem leads_nextBlk_last (base : Half) {last : BitVec 5} {s : State} (hblk : s.blk = BitVec.ofNat 5 last.toNat) :
    Leads Ready [.nextBlk base last] s [] s := by
  refine .line fun hs => ⟨hs.running, hs, fun rest => ?_⟩
  simp only [runLine, lineNextBlk, State.pend, hblk, (turn_lt_iff le_rfl).not.mpr (lt_irrefl _), if_false]
  rfl

/-- Turn `n` up to its end. -/
theorem leads_blkTurn (base : Half) (last : BitVec 5) (n : Nat) (s : State) :
    Leads Ready (blkTurn base last n) ((afterDumpBlocks base n s).atBlk n) [.nextBlk base last]
      (afterDumpBlocks base (n + 1) s) :=
  (leads_dumpBlock _ _).append [.nextBlk base last]

theorem afterDumpBlocks_blk (base : Half) (n : Nat) (s : State) :
    (afterDumpBlocks base (n + 1) s).blk = BitVec.ofNat 5 n := by
  rw [afterDumpBlocks_succ]
  exact (afterDumpBlock_kept _ _).2.1

/-- `for blk in 0 .. last`, whole (R96, R97). -/
theorem leads_blkLoop (base : Half) (last : BitVec 5) (s : State) :
    Leads Ready [.blkLoop base last] s [] (afterDumpBlocks base (last.toNat + 1) s) := by
  have henter : Leads Ready [.blkLoop base last] s (blkTurn base last 0) (s.atBlk 0) := by
    rw [← blkLines_atBlk base (Nat.zero_le _) s]
    exact .line fun hs => ⟨hs.running, hs, fun _ => rfl⟩
  refine henter.trans (.loop (f := fun n => (afterDumpBlocks base n s).atBlk n) (k := last.toNat) (fun n hn => ?_) ?_)
  · exact (leads_blkTurn base last n s).trans (leads_nextBlk_of_lt base (afterDumpBlocks_blk base n s) hn)
  · exact (leads_blkTurn base last _ s).trans (leads_nextBlk_last base (afterDumpBlocks_blk base _ s))

/-! ## The banks -/

/-- The state with `bank` at number `n`. -/
def State.atBank (n : Nat) (s : State) : State := { s with bank := BitVec.ofNat 16 n }

theorem atBank_of_bank {n : Nat} {s : State} (h : s.bank = BitVec.ofNat 16 n) : s.atBank n = s := by
  cases s
  cases h
  rfl

/-- Up to the number of banks, `bank` against it is the number of the turn against it. -/
theorem bank_lt_iff {w n : Nat} {count : BitVec w} (hw : w ≤ 16) (hn : n ≤ count.toNat) :
    BitVec.ofNat 16 n < count.setWidth 16 ↔ n < count.toNat := by
  have hcount : count.toNat < 2 ^ 16 := count.isLt.trans_le (Nat.pow_le_pow_right (by decide) hw)
  rw [BitVec.lt_def, BitVec.toNat_ofNat, BitVec.toNat_setWidth, Nat.mod_eq_of_lt hcount, Nat.mod_eq_of_lt (by omega)]

theorem inRomBanks_ofNat {n : Nat} {s : State} (hn : n ≤ s.romBanks.toNat) :
    inRomBanks (BitVec.ofNat 16 n) s = decide (n < s.romBanks.toNat) :=
  decide_eq_decide.mpr (bank_lt_iff (by decide) hn)

theorem inRamBanks_ofNat {n : Nat} {s : State} (hn : n ≤ s.ramBanks.toNat) :
    inRamBanks (BitVec.ofNat 16 n) s = decide (n < s.ramBanks.toNat) :=
  decide_eq_decide.mpr (bank_lt_iff (by decide) hn)

/-- The end of one turn of a loop over `bank`, where the bank it compares is in (R96, R97, R98). -/
def nextBank (head : Task) (inBanks : Half → State → Bool) (s : State) : Out :=
  if inBanks (s.bank + 1) s then .next (enter [head] { s with bank := s.bank + 1 }) else .next s

/-- `head` is the own line of a turn of a loop over `bank`, `next` the line at the turn's end, and `count` the number of
banks, which the test `inBanks` compares `bank` with (R96, R97, R98). -/
structure BankLoop (head next : Task) (inBanks : Half → State → Bool) (count : State → Nat) : Prop where
  /-- the count is no matter of what is pending -/
  count_pend : ∀ s ls, count (s.pend ls) = count s
  /-- the test compares with the count -/
  test : ∀ {n s}, n ≤ count s → inBanks (BitVec.ofNat 16 n) s = decide (n < count s)
  /-- with no bank the loop makes no turn -/
  none : ∀ s, ¬ inBanks s.bank s = true → runLine head s = .next s
  /-- the end of a turn -/
  next : ∀ s, runLine next s = nextBank head inBanks s

theorem romBankLoop : BankLoop .romBank .nextRomBank inRomBanks fun s => s.romBanks.toNat :=
  ⟨fun _ _ => rfl, inRomBanks_ofNat, fun _ h => if_neg h, fun _ => rfl⟩

theorem ramBankLoop : BankLoop .ramBank .nextRamBank inRamBanks fun s => s.ramBanks.toNat :=
  ⟨fun _ _ => rfl, inRamBanks_ofNat, fun _ h => if_neg h, fun _ => rfl⟩

theorem flashBankLoop : BankLoop .flashBank .nextFlashBank inRamBanks fun s => s.ramBanks.toNat :=
  ⟨fun _ _ => rfl, inRamBanks_ofNat, fun _ h => if_neg h, fun _ => rfl⟩

section
variable {head next : Task} {inBanks : Half → State → Bool} {count : State → Nat} {s : State}

/-- Before the last bank the end of a turn enters the next one. -/
theorem BankLoop.leads_next (h : BankLoop head next inBanks count) {n : Nat} (hbank : s.bank = BitVec.ofNat 16 n)
    (hn : n + 1 < count s) : Leads Ready [next] s [head] (s.atBank (n + 1)) := by
  refine .line fun hs => ⟨hs.running, hs, fun rest => ?_⟩
  have hsucc : s.bank + 1 = BitVec.ofNat 16 (n + 1) := hbank ▸ turn_succ 16 n
  have hin := h.test (n := n + 1) (s := s.pend rest) (by rw [h.count_pend]; omega)
  rw [h.count_pend, decide_eq_true hn, ← hsucc] at hin
  rw [h.next, State.atBank, ← hsucc]
  exact if_pos hin

/-- After the last bank the end of a turn is the end of the loop. -/
theorem BankLoop.leads_last (h : BankLoop head next inBanks count) {n : Nat} (hbank : s.bank = BitVec.ofNat 16 n)
    (hn : n + 1 = count s) : Leads Ready [next] s [] s := by
  refine .line fun hs => ⟨hs.running, hs, fun rest => ?_⟩
  have hsucc : s.bank + 1 = BitVec.ofNat 16 (n + 1) := hbank ▸ turn_succ 16 n
  have hin := h.test (n := n + 1) (s := s.pend rest) (by rw [h.count_pend]; omega)
  rw [h.count_pend, decide_eq_false (by omega), ← hsucc] at hin
  rw [h.next]
  exact if_neg (ne_true_of_eq_false hin)

/-- The whole loop, from bank 0 on, where the state after `n` turns is `f n`. -/
theorem BankLoop.leads (h : BankLoop head next inBanks count) {f : Nat → State} {N : Nat} (hzero : (f 0).bank = 0)
    (hcount : ∀ n ≤ N, count (f n) = N) (hbank : ∀ n < N, (f (n + 1)).bank = BitVec.ofNat 16 n)
    (hturn : ∀ n < N, Leads Ready [head] ((f n).atBank n) [next] (f (n + 1))) : Leads Ready [head] (f 0) [] (f N) := by
  cases N with
  | zero =>
    refine .line fun hs => ⟨hs.running, hs, fun rest => h.none _ ?_⟩
    have hin := h.test (n := 0) (s := (f 0).pend rest) (Nat.zero_le _)
    rw [h.count_pend, hcount 0 le_rfl] at hin
    exact hzero ▸ ne_true_of_eq_false hin
  | succ k =>
    rw [← atBank_of_bank (n := 0) hzero]
    refine .loop (body := fun _ => [head]) (f := fun n => (f n).atBank n) (k := k) (fun n hn => ?_) ?_
    · exact (hturn n (by omega)).trans (h.leads_next (hbank n (by omega)) (by rw [hcount _ (by omega)]; omega))
    · exact (hturn k (by omega)).trans (h.leads_last (hbank k (by omega)) (hcount _ le_rfl).symm)

end

/-! ## DumpRom -/

/-- A ROM request of a variant that has ROM banks to select is one write or two (R77, R79, R81, R83). -/
theorem afterSelectRom_writes {k : Variant} (hk : k ≠ .romOnly) (n : Half) :
    (∃ a v, ∀ s, afterSelectRom k n s = afterWrite a v s)
      ∨ ∃ a v b w, ∀ s, afterSelectRom k n s = afterWrite b w (afterWrite a v s) := by
  cases k with
  | romOnly => exact absurd rfl hk
  | mbc1 =>
    by_cases hset : (n >>> 8) &&& 3 ≠ 0
    · exact .inr ⟨_, _, _, _, fun _ => if_pos hset⟩
    · exact .inl ⟨_, _, fun _ => if_neg hset⟩
  | mbc2 => exact .inl ⟨_, _, fun _ => rfl⟩
  | mbc3 => exact .inl ⟨_, _, fun _ => rfl⟩
  | mbc5 => exact .inr ⟨_, _, _, _, fun _ => rfl⟩

theorem afterSelectRom_kept {k : Variant} (hk : k ≠ .romOnly) (n : Half) (s : State) :
    (afterSelectRom k n s).offDump = s.offDump ∧ (afterSelectRom k n s).bank = s.bank := by
  obtain ⟨a, v, h⟩ | ⟨a, v, b, w, h⟩ := afterSelectRom_writes hk n
  all_goals rw [h]; exact ⟨rfl, rfl⟩

theorem afterSelectRom_pend {k : Variant} (hk : k ≠ .romOnly) (n : Half) (s : State) (rest : List Task) :
    afterSelectRom k n (s.pend rest) = (afterSelectRom k n s).pend rest := by
  obtain ⟨a, v, h⟩ | ⟨a, v, b, w, h⟩ := afterSelectRom_writes hk n
  all_goals rw [h, h]; rfl

theorem ready_afterSelectRom {k : Variant} (hk : k ≠ .romOnly) (n : Half) {s : State} (hs : Ready s) :
    Ready (afterSelectRom k n s) := by
  obtain ⟨a, v, h⟩ | ⟨a, v, b, w, h⟩ := afterSelectRom_writes hk n
  · exact h s ▸ ready_afterWrite a v hs
  · exact h s ▸ ready_afterWrite b w (ready_afterWrite a v hs)

theorem leads_selectRom (n : Half) {s : State} (hv : s.variant ≠ .romOnly) :
    Leads Ready [.call (.selectRomBank n)] s [] (afterSelectRom s.variant n s) :=
  .call fun hs => ⟨hs.running, ready_afterSelectRom hv n hs, fun rest =>
    afterSelectRom_pend hv n s rest ▸ completes_selectRomBank n (s := s.pend rest) hs.running hs.clkLow hs.dirIn⟩

/-- One turn of DumpRom's loop: bank 0 with no request, every other bank requested first (R96). -/
theorem lineRomBank_of_lt {n : Nat} {s : State} (hbank : s.bank = BitVec.ofNat 16 n) (hn : n < s.romBanks.toNat) :
    lineRomBank s = .next (enter (if n = 0 then [.blkLoop 0x0000 31, .nextRomBank]
      else [.call (.selectRomBank (BitVec.ofNat 16 n)), .blkLoop 0x4000 31, .nextRomBank]) s) := by
  have hin : inRomBanks (BitVec.ofNat 16 n) s = true := (inRomBanks_ofNat hn.le).trans (decide_eq_true hn)
  rw [lineRomBank, hbank, if_pos hin]
  by_cases h0 : n = 0
  · subst h0
    rfl
  · have hne : BitVec.ofNat 16 n ≠ 0 := by
      have := s.romBanks.isLt
      bv_omega
    simp only [switchedBank, romBase, hne, h0, ne_eq, not_false_eq_true, decide_true, if_true, if_false, Config.romxBase]
    rfl

/-- Bank `n` of the dump, up to the end of its turn (R96). -/
theorem leads_romBank {n : Nat} {s : State} (hv : s.variant ≠ .romOnly) (hn : n < s.romBanks.toNat) :
    Leads Ready [.romBank] (s.atBank n) [.nextRomBank] (afterRomBank n s) := by
  have hline (rest) := lineRomBank_of_lt (s := (s.atBank n).pend rest) rfl hn
  unfold afterRomBank
  split at hline
  next h0 =>
    subst h0
    refine Leads.trans (.line fun hs => ⟨hs.running, hs, hline⟩) ?_
    exact (leads_blkLoop 0x0000 31 (s.atBank 0)).append [.nextRomBank]
  next h0 =>
    rw [if_neg h0]
    refine Leads.trans (.line fun hs => ⟨hs.running, hs, hline⟩) ?_
    exact .cons (leads_selectRom _ (s := s.atBank n) hv) ((leads_blkLoop 0x4000 31 _).append [.nextRomBank])

theorem afterRomBank_kept (n : Nat) {s : State} (hv : s.variant ≠ .romOnly) :
    (afterRomBank n s).offDump = s.offDump ∧ (afterRomBank n s).bank = BitVec.ofNat 16 n := by
  unfold afterRomBank
  split
  next h0 => exact h0 ▸ afterDumpBlocks_kept 0x0000 32 (s.atBank 0)
  next =>
    obtain ⟨hsel, hselBank⟩ := afterSelectRom_kept hv (BitVec.ofNat 16 n) (s.atBank n)
    obtain ⟨hkept, hbank⟩ := afterDumpBlocks_kept 0x4000 32 (afterSelectRom s.variant (BitVec.ofNat 16 n) (s.atBank n))
    exact ⟨hkept.trans hsel, hbank.trans hselBank⟩

theorem afterRomBanks_kept (n : Nat) {s : State} (hv : s.variant ≠ .romOnly) :
    (afterRomBanks n s).offDump = s.offDump := by
  induction n with
  | zero => rfl
  | succ n ih =>
    obtain ⟨-, -, hvariant, -⟩ := kept_of_offDump ih
    rw [afterRomBanks]
    exact (afterRomBank_kept n (hvariant ▸ hv)).1.trans ih

/-- The loop over the ROM banks, whole (R96). -/
theorem leads_romBanks {s : State} (hv : s.variant ≠ .romOnly) :
    Leads Ready [.romBank] (s.atBank 0) [] (afterRomBanks s.romBanks.toNat s) := by
  have hkept (n) : (afterRomBanks n s).variant = s.variant ∧ (afterRomBanks n s).romBanks = s.romBanks := by
    obtain ⟨-, -, hvariant, hbanks, -⟩ := kept_of_offDump (afterRomBanks_kept n hv)
    exact ⟨hvariant, hbanks⟩
  have hv' (n) : (afterRomBanks n s).variant ≠ .romOnly := by rwa [(hkept n).1]
  have hcount (n) : (afterRomBanks n s).romBanks.toNat = s.romBanks.toNat := by rw [(hkept n).2]
  exact romBankLoop.leads (f := fun n => afterRomBanks n s) rfl (fun n _ => hcount n)
    (fun n _ => (afterRomBank_kept n (hv' n)).2) fun n hn => leads_romBank (hv' n) (hn.trans_eq (hcount n).symm)

/-- Settles O45: the loop over the banks, and nothing pending before is touched. -/
theorem dumpRom : Obligations.DumpRom := by
  intro s hr hclk hdir hready hv
  obtain ⟨hwork, -⟩ := kept_of_offDump (afterRomBanks_kept s.romBanks.toNat hv)
  exact ⟨_, rfl, (leads_romBanks hv).reaches ⟨hr, hclk, hdir, hready⟩ hwork⟩

/-! ## DumpRam -/

/-- A RAM request of a variant that has RAM banks to select is one write (R78, R82, R84). -/
theorem afterSelectRam_eq {k : Variant} (hk : hasRamBanks k = true) (n : Nat) (s : State) :
    afterSelectRam k (BitVec.ofNat 8 n) s = afterWrite 0x4000 (ramField k n) s := by
  cases k with
  | romOnly | mbc2 => cases hk
  | mbc1 | mbc3 | mbc5 => rfl

/-- RAM bank `n` requested (R78, R82, R84, R97, R98). -/
def ramSelected (n : Nat) (s : State) : State := afterWrite 0x4000 (ramField s.variant n) (s.atBank n)

theorem ramBankOperand_ofNat (n : Nat) : ramBankOperand (BitVec.ofNat 16 n) = BitVec.ofNat 8 n := by
  unfold ramBankOperand
  bv_omega

theorem leads_selectRam {n : Nat} {s : State} (hk : hasRamBanks s.variant = true) :
    Leads Ready [.call (.selectRamBank (ramBankOperand (BitVec.ofNat 16 n)))] (s.atBank n) [] (ramSelected n s) := by
  refine .call fun hs => ⟨hs.running, ready_afterWrite _ _ (s := s.atBank n) hs, fun rest => ?_⟩
  have hsel : Completes _ _ (afterSelectRam s.variant _ _) :=
    completes_selectRamBank (BitVec.ofNat 8 n) (s := (s.atBank n).pend rest) hs.running hs.clkLow hs.dirIn
  rw [afterSelectRam_eq hk] at hsel
  rw [ramBankOperand_ofNat]
  exact hsel

/-- `enable_ram` and `disable_ram` (R73, R74). -/
theorem leads_controlWrite {i : Instr} {a : Half} {v : Byte} (hi : ∀ s, exec i s = controlWrite a v s) (s : State) :
    Leads Ready [.call i] s [] (afterWrite a v s) :=
  .call fun hs => ⟨hs.running, ready_afterWrite a v hs, fun _ => completes_controlWrite hs.running hs.clkLow hs.dirIn (hi _)⟩

/-- Bank `n` of the dump is requested, then dumped (R97). -/
theorem afterRamBanks_succ {n : Nat} {s : State} (hk : hasRamBanks (afterRamBanks n s).variant = true) :
    afterRamBanks (n + 1) s = afterDumpBlocks 0xA000 16 (ramSelected n (afterRamBanks n s)) := by
  rw [ramSelected, ← afterSelectRam_eq hk]
  rfl

theorem afterRamBanks_kept {n : Nat} {s : State} (h : hasRamBanks s.variant = true ∨ n = 0) :
    (afterRamBanks n s).offDump = s.offDump := by
  induction n with
  | zero => rfl
  | succ n ih =>
    have hk : hasRamBanks s.variant = true := h.resolve_right (by omega)
    have hkept := ih (.inl hk)
    obtain ⟨-, -, hvariant, -⟩ := kept_of_offDump hkept
    rw [afterRamBanks_succ (hvariant ▸ hk), (afterDumpBlocks_kept ..).1]
    exact hkept

/-- One turn of DumpRam's loop: the request, bank 0 included, and the blocks (R97). -/
theorem lineRamBank_of_lt {n : Nat} {s : State} (hbank : s.bank = BitVec.ofNat 16 n) (hn : n < s.ramBanks.toNat) :
    lineRamBank s = .next (enter
      [.call (.selectRamBank (ramBankOperand (BitVec.ofNat 16 n))), .blkLoop Config.ramBase 15, .nextRamBank] s) := by
  rw [lineRamBank, hbank, if_pos ((inRamBanks_ofNat hn.le).trans (decide_eq_true hn))]

/-- Bank `n` of the dump, up to the end of its turn (R97). -/
theorem leads_ramBank {n : Nat} {s : State} (hk : hasRamBanks s.variant = true) (hn : n < s.ramBanks.toNat) :
    Leads Ready [.ramBank] (s.atBank n) [.nextRamBank] (afterDumpBlocks 0xA000 16 (ramSelected n s)) :=
  Leads.trans (.line fun hs => ⟨hs.running, hs, fun rest => lineRamBank_of_lt (s := (s.atBank n).pend rest) rfl hn⟩)
    (.cons (leads_selectRam hk) ((leads_blkLoop 0xA000 15 _).append [.nextRamBank]))

/-- The loop over the RAM banks, whole (R97). -/
theorem leads_ramBanks {s : State} (hzero : s.bank = 0) (h : hasRamBanks s.variant = true ∨ s.ramBanks.toNat = 0) :
    Leads Ready [.ramBank] s [] (afterRamBanks s.ramBanks.toNat s) := by
  have hkept (n) (hn : n ≤ s.ramBanks.toNat) :
      (afterRamBanks n s).variant = s.variant ∧ (afterRamBanks n s).ramBanks = s.ramBanks := by
    obtain ⟨-, -, hvariant, -, hbanks⟩ :=
      kept_of_offDump (afterRamBanks_kept (n := n) (h.imp_right fun h0 => by omega))
    exact ⟨hvariant, hbanks⟩
  have hk (n) (hn : n < s.ramBanks.toNat) : hasRamBanks (afterRamBanks n s).variant = true := by
    rw [(hkept n hn.le).1]
    exact h.resolve_right (by omega)
  have hcount (n) (hn : n ≤ s.ramBanks.toNat) : (afterRamBanks n s).ramBanks.toNat = s.ramBanks.toNat := by
    rw [(hkept n hn).2]
  refine ramBankLoop.leads (f := fun n => afterRamBanks n s) hzero hcount (fun n hn => ?_) (fun n hn => ?_)
  · rw [afterRamBanks_succ (hk n hn)]
    exact (afterDumpBlocks_kept _ _ _).2
  · rw [afterRamBanks_succ (hk n hn)]
    exact leads_ramBank (hk n hn) (hn.trans_eq (hcount n hn.le).symm)

theorem selectable_or_no_banks {s : State} (h : hasRamBanks s.variant = true ∨ s.ramBanks = 0) :
    hasRamBanks s.variant = true ∨ s.ramBanks.toNat = 0 :=
  h.imp_right fun h0 => congrArg BitVec.toNat h0

/-- Settles O48: RAM on, the loop over the banks, RAM off. -/
theorem dumpRam : Obligations.DumpRam := by
  intro s hr hclk hdir hready h
  replace h := selectable_or_no_banks h
  have hkept := afterRamBanks_kept (s := afterWrite 0x0000 0x0A (s.atBank 0)) h
  have hloop := leads_ramBanks (s := afterWrite 0x0000 0x0A (s.atBank 0)) rfl h
  have hlines : Leads Ready [.call .enableRam, .ramBank, .call .disableRam] (s.atBank 0) [] (afterDumpRam s) :=
    .cons (leads_controlWrite (fun _ => rfl) _) (.cons hloop (leads_controlWrite (fun _ => rfl) _))
  obtain ⟨hwork, -⟩ := kept_of_offDump hkept
  exact ⟨_, rfl, hlines.reaches ⟨hr, hclk, hdir, hready⟩ hwork⟩

/-! ## What FlashRam does to its surroundings -/

/-- A state with the registers of a bus access, the loop registers of FlashRam, `cbuf` and the transport's streams blanked:
what is left is what FlashRam keeps (R98). -/
def State.offFlash (s : State) : State :=
  { s.offBus with bank := 0, chunk := 0, idx := 0, cbuf := [], rx := [], tx := [] }

/-- A stretch of FlashRam from `s` to `t`: it keeps what FlashRam keeps, takes `k` payload bytes, sends `out`, and, with
`cbuf` in canonical form, makes the events `es` (R98). -/
structure Flashes (s : State) (es : List Event) (k : Nat) (out : List Byte) (t : State) : Prop where
  kept : t.offFlash = s.offFlash
  rx : t.rx = s.rx.drop k
  tx : t.tx = s.tx ++ out
  cbuf : Memory.wf s.cbuf = true → Memory.wf t.cbuf = true
  trace : Memory.wf s.cbuf = true → t.trace = happened es s

section
variable {s t u : State} {es es' es'' : List Event} {k k' k'' : Nat} {out out' out'' : List Byte}

theorem Flashes.trans (h : Flashes s es k out t) (h' : Flashes t es' k' out' u) (hes : es'' = es ++ es')
    (hk : k'' = k + k') (hout : out'' = out ++ out') : Flashes s es'' k'' out'' u where
  kept := h'.kept.trans h.kept
  rx := by rw [h'.rx, h.rx, List.drop_drop, hk]
  tx := by rw [h'.tx, h.tx, List.append_assoc, hout]
  cbuf hwf := h'.cbuf (h.cbuf hwf)
  trace hwf := by
    rw [h'.trace (h.cbuf hwf), happened, h.trace hwf, hes]
    simp [happened]

/-- A stretch that does nothing but set registers FlashRam need not keep. -/
theorem Flashes.silent (hkept : t.offFlash = s.offFlash) (hrx : t.rx = s.rx) (htx : t.tx = s.tx) (hcbuf : t.cbuf = s.cbuf)
    (htrace : t.trace = s.trace) : Flashes s [] 0 [] t :=
  ⟨hkept, hrx, by rw [htx, List.append_nil], fun hwf => hcbuf ▸ hwf, fun _ => htrace⟩

theorem Flashes.congr_events (h : Flashes s es k out t) (hes : Memory.wf s.cbuf = true → es = es') :
    Flashes s es' k out t :=
  ⟨h.kept, h.rx, h.tx, h.cbuf, fun hwf => hes hwf ▸ h.trace hwf⟩

/-- What is read off a state kept by FlashRam. -/
theorem kept_of_offFlash (h : t.offFlash = s.offFlash) :
    t.work = s.work ∧ t.txReady = s.txReady ∧ t.variant = s.variant ∧ t.ramBanks = s.ramBanks ∧ t.buf = s.buf
      ∧ t.hdr = s.hdr ∧ t.answers = s.answers ∧ t.fsm = s.fsm ∧ t.fault = s.fault :=
  ⟨(congrArg State.work h :), (congrArg State.txReady h :), (congrArg State.variant h :), (congrArg State.ramBanks h :),
    (congrArg State.buf h :), (congrArg State.hdr h :), (congrArg State.answers h :), (congrArg State.fsm h :),
    (congrArg State.fault h :)⟩

end

theorem flashes_write (a : Half) (v : Byte) (s : State) : Flashes s (writeEvents a v) 0 [] (afterWrite a v s) :=
  ⟨rfl, rfl, (List.append_nil _).symm, id, fun _ => rfl⟩

theorem flashes_send (b : Byte) (s : State) : Flashes s [.tx b] 0 [b] (afterSends [b] s) :=
  ⟨rfl, rfl, rfl, id, fun _ => rfl⟩

/-! ### A chunk received -/

/-- One payload byte received into `cbuf[n]` (R98). -/
def received (n : Nat) (s : State) : State :=
  { s with cbuf := Memory.write s.cbuf n (s.rx.headD 0), rx := s.rx.tail, trace := .rx (s.rx.headD 0) :: s.trace }

theorem flashes_received (n : Nat) (s : State) : Flashes s [.rx (s.rx.headD 0)] 1 [] (received n s) :=
  ⟨rfl, List.drop_one.symm, (List.append_nil _).symm, Memory.write_wf _ _, fun _ => rfl⟩

theorem headD_drop (bs : List Byte) (n : Nat) : (bs.drop n).headD 0 = bs.getD n 0 := by
  simp [List.headD_eq_head?_getD, List.head?_drop]

theorem getD_drop (bs : List Byte) (n i : Nat) : (bs.drop n).getD i 0 = bs.getD (n + i) 0 := by
  simp [List.getD_eq_getElem?_getD, List.getElem?_drop]

theorem flashes_recv (n : Nat) (s : State) :
    Flashes s ((List.range n).map fun i => .rx (s.rx.getD i 0)) n [] (afterRecv n s) := by
  induction n with
  | zero => exact .silent rfl rfl rfl rfl rfl
  | succ n ih =>
    refine ih.trans (flashes_received n _) ?_ rfl rfl
    rw [ih.rx, headD_drop, List.range_succ, List.map_append, List.map_singleton]

/-- What receiving leaves of the loop registers. -/
theorem afterRecv_loops (n : Nat) (s : State) : (afterRecv n s).bank = s.bank ∧ (afterRecv n s).chunk = s.chunk := by
  induction n with
  | zero => exact ⟨rfl, rfl⟩
  | succ n ih => exact ih

/-- The payload byte received in turn `i` is in `cbuf[i]` (R98). -/
theorem read_afterRecv {n i : Nat} {s : State} (hwf : Memory.wf s.cbuf = true) (hi : i < n) :
    Memory.read (afterRecv n s).cbuf i = s.rx.getD i 0 := by
  induction n with
  | zero => omega
  | succ n ih =>
    rcases Nat.lt_succ_iff_lt_or_eq.mp hi with hlt | rfl
    · exact (Memory.read_write_other _ _ (by omega)).trans (ih hlt)
    · rw [← headD_drop, ← (flashes_recv i s).rx]
      exact Memory.read_write_same _ _ ((flashes_recv i s).cbuf hwf)

/-! ### A chunk written -/

theorem afterChunkWrites_succ (c n : Nat) (s : State) :
    afterChunkWrites c (n + 1) s =
      afterWrite (0xA000 + BitVec.ofNat 16 (c * 32 + n)) (Memory.read (afterChunkWrites c n s).cbuf n)
        (afterChunkWrites c n s) := rfl

/-- Writing a chunk is nothing but bus accesses. -/
theorem afterChunkWrites_offBus (c n : Nat) (s : State) : (afterChunkWrites c n s).offBus = s.offBus := by
  induction n with
  | zero => rfl
  | succ n ih => exact ih

theorem afterChunkWrites_kept (c n : Nat) (s : State) :
    (afterChunkWrites c n s).cbuf = s.cbuf ∧ (afterChunkWrites c n s).bank = s.bank
      ∧ (afterChunkWrites c n s).chunk = s.chunk :=
  have h := afterChunkWrites_offBus c n s
  ⟨(congrArg State.cbuf h :), (congrArg State.bank h :), (congrArg State.chunk h :)⟩

theorem flashes_chunkWrites (c n : Nat) (s : State) :
    Flashes s ((List.range n).flatMap fun i => writeEvents (0xA000 + BitVec.ofNat 16 (c * 32 + i)) (Memory.read s.cbuf i))
      0 [] (afterChunkWrites c n s) := by
  induction n with
  | zero => exact .silent rfl rfl rfl rfl rfl
  | succ n ih =>
    rw [afterChunkWrites_succ, (afterChunkWrites_kept c n s).1]
    refine ih.trans (flashes_write _ _ _) ?_ rfl rfl
    rw [List.range_succ, List.flatMap_append, List.flatMap_singleton]

/-! ### Chunks, banks -/

/-- The state with `chunk` at number `n`. -/
def State.atChunk (n : Nat) (s : State) : State := { s with chunk := BitVec.ofNat 8 n }

/-- After chunk `n` of a bank, where a chunk has `m` bytes (R98). -/
def afterChunk (m n : Nat) (s : State) : State :=
  (afterSends [0xAB] (afterChunkWrites n m (afterRecv m (s.atChunk n)))).atIdx 31

theorem afterChunks_succ (n : Nat) (s : State) : afterChunks (n + 1) s = afterChunk 32 n (afterChunks n s) := rfl

theorem afterChunk_loops (m n : Nat) (s : State) :
    (afterChunk m n s).bank = s.bank ∧ (afterChunk m n s).chunk = BitVec.ofNat 8 n := by
  obtain ⟨-, hbank, hchunk⟩ := afterChunkWrites_kept n m (afterRecv m (s.atChunk n))
  obtain ⟨hbank', hchunk'⟩ := afterRecv_loops m (s.atChunk n)
  exact ⟨hbank.trans hbank', hchunk.trans hchunk'⟩

/-- A chunk is received whole, then written whole, then marked (R98). -/
theorem flashes_chunk (m c : Nat) (s : State) :
    Flashes s (((List.range m).map fun i => .rx (s.rx.getD i 0))
        ++ ((List.range m).flatMap fun i => writeEvents (0xA000 + BitVec.ofNat 16 (c * 32 + i)) (s.rx.getD i 0))
        ++ [.tx 0xAB]) m [0xAB] (afterChunk m c s) := by
  have hstart : Flashes s [] 0 [] (s.atChunk c) := .silent rfl rfl rfl rfl rfl
  have hrecv := hstart.trans (flashes_recv m (s.atChunk c)) rfl (Nat.zero_add m).symm rfl
  have hwrites := hrecv.trans (flashes_chunkWrites c m (afterRecv m (s.atChunk c))) rfl rfl rfl
  have hmark : Flashes (afterChunkWrites c m (afterRecv m (s.atChunk c))) [.tx 0xAB] 0 [0xAB]
      (afterChunk m c s) := ⟨rfl, rfl, rfl, id, fun _ => rfl⟩
  refine (hwrites.trans hmark rfl rfl rfl).congr_events fun hwf => ?_
  have hreads := List.flatMap_congr (l := List.range m)
    (f := fun i => writeEvents (0xA000 + BitVec.ofNat 16 (c * 32 + i)) (Memory.read (afterRecv m (s.atChunk c)).cbuf i))
    fun i hi => by rw [read_afterRecv (s := s.atChunk c) hwf (List.mem_range.mp hi)]
  rw [hreads]
  rfl

/-- The chunks of a bank take and send what their numbers say. -/
theorem flashes_chunks (n : Nat) (s : State) :
    Flashes s ((List.range n).flatMap fun c => chunkEvents c fun i => s.rx.getD (c * 32 + i) 0) (n * 32)
      (List.replicate n 0xAB) (afterChunks n s) := by
  induction n with
  | zero => exact .silent rfl rfl rfl rfl rfl
  | succ n ih =>
    rw [afterChunks_succ]
    refine ih.trans (flashes_chunk 32 n _) ?_ (Nat.succ_mul n 32) List.replicate_succ'
    simp only [List.range_succ, List.flatMap_append, List.flatMap_singleton, chunkEvents, ih.rx, getD_drop]

theorem afterChunks_bank (n : Nat) (s : State) : (afterChunks n s).bank = s.bank := by
  induction n with
  | zero => rfl
  | succ n ih => rw [afterChunks_succ, (afterChunk_loops 32 n _).1, ih]

/-- After bank `n` of FlashRam (R98). -/
def afterFlashBank (n : Nat) (s : State) : State := afterSends [0xAA] (afterChunks 256 (ramSelected n s))

theorem afterFlashBanks_succ {n : Nat} {s : State} (hk : hasRamBanks (afterFlashBanks n s).variant = true) :
    afterFlashBanks (n + 1) s = afterFlashBank n (afterFlashBanks n s) := by
  rw [afterFlashBank, ramSelected, ← afterSelectRam_eq hk]
  rfl

theorem afterFlashBank_bank (n : Nat) (s : State) : (afterFlashBank n s).bank = BitVec.ofNat 16 n := by
  rw [afterFlashBank, (afterSends_kept _ _).2.2, afterChunks_bank]
  rfl

theorem flashes_bank (n : Nat) (s : State) :
    Flashes s (flashBankEvents s.variant n fun i => s.rx.getD i 0) 8192 (List.replicate 256 0xAB ++ [0xAA])
      (afterFlashBank n s) := by
  have hstart : Flashes s [] 0 [] (s.atBank n) := .silent rfl rfl rfl rfl rfl
  have hselect : Flashes (s.atBank n) _ 0 [] (ramSelected n s) := flashes_write _ _ _
  have hchunks := flashes_chunks 256 (ramSelected n s)
  have hmark := flashes_send 0xAA (afterChunks 256 (ramSelected n s))
  exact ((hstart.trans hselect rfl rfl rfl).trans hchunks rfl rfl rfl).trans hmark rfl rfl rfl

/-- The banks of FlashRam take and send what their numbers say. -/
theorem flashes_banks {n : Nat} {s : State} (h : hasRamBanks s.variant = true ∨ n = 0) :
    Flashes s ((List.range n).flatMap fun b => flashBankEvents s.variant b fun i => s.rx.getD (b * 8192 + i) 0) (n * 8192)
      (List.replicate n (List.replicate 256 0xAB ++ [0xAA])).flatten (afterFlashBanks n s) := by
  induction n with
  | zero => exact .silent rfl rfl rfl rfl rfl
  | succ n ih =>
    have hk : hasRamBanks s.variant = true := h.resolve_right (by omega)
    replace ih := ih (.inl hk)
    obtain ⟨-, -, hvariant, -⟩ := kept_of_offFlash ih.kept
    rw [afterFlashBanks_succ (hvariant ▸ hk)]
    refine ih.trans (flashes_bank n _) ?_ (Nat.succ_mul n 8192) ?_
    · simp only [List.range_succ, List.flatMap_append, List.flatMap_singleton, ih.rx, getD_drop, hvariant]
    · rw [List.replicate_succ', List.flatten_append, List.flatten_singleton]

/-! ## FlashRam -/

/-- A `SerRead` with a byte there. -/
theorem serRead_of_ne_nil {s : State} (k : Byte → State → State) (h : s.rx ≠ []) :
    serRead s k = .next (k (s.rx.headD 0) (emit (.rx (s.rx.headD 0)) { s with rx := s.rx.tail })) := by
  obtain ⟨b, rest, hrx⟩ := List.exists_cons_of_ne_nil h
  rw [serRead_cons k hrx, hrx]
  rfl

/-- With a byte there, a turn of the receiving loop takes it, and goes on up to index 31 (R98). -/
theorem lineRecvByte_eq {s : State} (hrx : s.rx ≠ []) :
    lineRecvByte s = .next (if s.idx < 31 then enter [.recvByte] { received s.idx.toNat s with idx := s.idx + 1 }
      else received s.idx.toNat s) := by
  rw [lineRecvByte, serRead_of_ne_nil _ hrx]
  rfl

theorem leads_recvByte_of_lt {n : Nat} {s : State} (hn : n < 31) (hrx : s.rx ≠ []) :
    Leads Ready [.recvByte] (s.atIdx n) [.recvByte] ((received n s).atIdx (n + 1)) := by
  refine .line fun hs => ⟨hs.running, hs, fun rest => (lineRecvByte_eq (s := (s.atIdx n).pend rest) hrx).trans ?_⟩
  simp only [State.atIdx, State.pend, (turn_lt_iff (last := (31 : BitVec 9)) hn.le).mpr hn, if_true, turn_succ,
    toNat_turn (last := (31 : BitVec 9)) hn.le]
  rfl

theorem leads_recvByte_last {s : State} (hrx : s.rx ≠ []) :
    Leads Ready [.recvByte] (s.atIdx 31) [] ((received 31 s).atIdx 31) :=
  .line fun hs => ⟨hs.running, hs, fun rest => lineRecvByte_eq (s := (s.atIdx 31).pend rest) hrx⟩

/-- `for idx in 0 .. 31: cbuf[idx] <- SerRead()` (R98). -/
theorem leads_recvLoop {s : State} (hlen : 32 ≤ s.rx.length) :
    Leads Ready [.recvLoop] s [] ((afterRecv 32 s).atIdx 31) := by
  have henter : Leads Ready [.recvLoop] s [.recvByte] (s.atIdx 0) := .line fun hs => ⟨hs.running, hs, fun _ => rfl⟩
  have hrx (n) (hn : n < 32) : (afterRecv n s).rx ≠ [] := by
    rw [(flashes_recv n s).rx, ← List.length_pos_iff, List.length_drop]
    omega
  exact henter.trans (.loop (body := fun _ => [.recvByte]) (f := fun n => (afterRecv n s).atIdx n) (k := 31)
    (fun n hn => leads_recvByte_of_lt hn (hrx n (by omega))) (leads_recvByte_last (hrx 31 (by omega))))

/-- Byte `n` of chunk `c` is written (R98). -/
theorem leads_writeChunk {c n : Nat} {s : State} (hchunk : s.chunk = BitVec.ofNat 8 c) (hc : c < 256) (hn : n < 32) :
    Leads Ready [.writeChunk] (s.atIdx n) [.nextWrite]
      ((afterWrite (0xA000 + BitVec.ofNat 16 (c * 32 + n)) (Memory.read s.cbuf n) s).atIdx n) := by
  have haddr : chunkAddr s.chunk (BitVec.ofNat 9 n) = 0xA000 + BitVec.ofNat 16 (c * 32 + n) := by
    rw [hchunk, chunkAddr, Config.ramBase, BitVec.add_assoc]
    congr 1
    bv_omega
  have hturn : Leads Ready [.writeChunk] (s.atIdx n)
      [.call (.writeByte (chunkAddr s.chunk (BitVec.ofNat 9 n)) (Memory.read s.cbuf n)), .nextWrite]
      { s with idx := BitVec.ofNat 9 n, areg := chunkAddr s.chunk (BitVec.ofNat 9 n) } := by
    refine .line fun hs => ⟨hs.running, hs, fun rest => ?_⟩
    rw [runLine, lineWriteChunk, State.atIdx, State.pend]
    simp only [toNat_turn (last := (31 : BitVec 9)) (Nat.le_of_lt_succ hn)]
    rfl
  rw [← haddr]
  refine hturn.trans (.cons (.call fun hs => ⟨hs.running, ready_afterWrite _ _ hs, fun rest => ?_⟩) (.refl _ _ _))
  exact completes_writeByte _ _ (s := State.pend rest _) hs.running hs.clkLow hs.dirIn

theorem leads_nextWrite_of_lt {n : Nat} (hn : n < 31) (s : State) :
    Leads Ready [.nextWrite] (s.atIdx n) [.writeChunk] (s.atIdx (n + 1)) := by
  refine .line fun hs => ⟨hs.running, hs, fun rest => ?_⟩
  simp only [runLine, lineNextWrite, State.atIdx, State.pend, (turn_lt_iff (last := (31 : BitVec 9)) hn.le).mpr hn,
    if_true, turn_succ]
  rfl

/-- `for idx in 0 .. 31: write_byte(...)`, from whatever `idx` holds (R98). -/
theorem leads_writeLoop {c : Nat} {s : State} (hchunk : s.chunk = BitVec.ofNat 8 c) (hc : c < 256) (k : Nat) :
    Leads Ready [.writeLoop] (s.atIdx k) [] ((afterChunkWrites c 32 s).atIdx 31) := by
  have henter : Leads Ready [.writeLoop] (s.atIdx k) [.writeChunk] (s.atIdx 0) :=
    .line fun hs => ⟨hs.running, hs, fun _ => rfl⟩
  have hturn (n) (hn : n < 32) :
      Leads Ready [.writeChunk] ((afterChunkWrites c n s).atIdx n) [.nextWrite]
        ((afterChunkWrites c (n + 1) s).atIdx n) := by
    obtain ⟨-, -, hchunk'⟩ := afterChunkWrites_kept c n s
    exact leads_writeChunk (hchunk'.trans hchunk) hc hn
  exact henter.trans (.loop (body := fun _ => [.writeChunk]) (f := fun n => (afterChunkWrites c n s).atIdx n) (k := 31)
    (fun n hn => (hturn n (by omega)).trans (leads_nextWrite_of_lt hn _))
    ((hturn 31 (by omega)).trans (.line fun hs => ⟨hs.running, hs, fun _ => rfl⟩)))

/-- The two outbound control bytes (R44, R98). -/
theorem leads_marker {i : Instr} {b : Byte} (hi : ∀ s, exec i s = serWrite b s id) (s : State) :
    Leads Ready [.call i] s [] (afterSends [b] s) :=
  .line fun hs => ⟨hs.running, hs, fun rest => (hi _).trans (serWrite_sends (s := s.pend rest) b id hs.txReady)⟩

/-- The marker behind a written chunk (R98). -/
theorem leads_ackChunk (s : State) :
    Leads Ready [.call .ackChunk, .nextChunk] (s.atIdx 31) [.nextChunk] ((afterSends [0xAB] s).atIdx 31) :=
  .cons (leads_marker (fun _ => rfl) (s.atIdx 31)) (.refl _ _ _)

/-- A received chunk is written and marked (R98). -/
theorem leads_chunkWritten {c : Nat} {s : State} (hchunk : s.chunk = BitVec.ofNat 8 c) (hc : c < 256) :
    Leads Ready [.writeLoop, .call .ackChunk, .nextChunk] (s.atIdx 31) [.nextChunk]
      ((afterSends [0xAB] (afterChunkWrites c 32 s)).atIdx 31) :=
  .cons (leads_writeLoop hchunk hc 31) (leads_ackChunk _)

/-- Chunk `c`, up to the end of its turn (R98). -/
theorem leads_chunk {c : Nat} {s : State} (hc : c < 256) (hlen : 32 ≤ s.rx.length) :
    Leads Ready chunkLines (s.atChunk c) [.nextChunk] (afterChunk 32 c s) :=
  .cons (leads_recvLoop (s := s.atChunk c) hlen) (leads_chunkWritten (afterRecv_loops 32 (s.atChunk c)).2 hc)

/-- Before the last chunk the end of a turn enters the next one (R98). -/
theorem leads_nextChunk_of_lt {n : Nat} {s : State} (hchunk : s.chunk = BitVec.ofNat 8 n) (hn : n < 255) :
    Leads Ready [.nextChunk] s chunkLines (s.atChunk (n + 1)) := by
  refine .line fun hs => ⟨hs.running, hs, fun rest => ?_⟩
  simp only [runLine, lineNextChunk, State.pend, hchunk, (turn_lt_iff (last := (255 : BitVec 8)) hn.le).mpr hn, if_true,
    turn_succ]
  rfl

/-- After the last chunk the end of a turn is the end of the loop (R98). -/
theorem leads_nextChunk_last {s : State} (hchunk : s.chunk = 255) : Leads Ready [.nextChunk] s [] s := by
  have hlast : ¬ s.chunk < 255 := by rw [hchunk]; exact BitVec.lt_irrefl _
  exact .line fun hs => ⟨hs.running, hs, fun _ => if_neg hlast⟩

/-- `for chunk in 0 .. 255`, whole (R98). -/
theorem leads_chunkLoop {s : State} (hlen : 256 * 32 ≤ s.rx.length) :
    Leads Ready [.chunkLoop] s [] (afterChunks 256 s) := by
  have henter : Leads Ready [.chunkLoop] s chunkLines (s.atChunk 0) := .line fun hs => ⟨hs.running, hs, fun _ => rfl⟩
  have hturn (n) (hn : n < 256) : Leads Ready chunkLines ((afterChunks n s).atChunk n) [.nextChunk]
      (afterChunks (n + 1) s) := by
    refine leads_chunk hn ?_
    rw [(flashes_chunks n s).rx, List.length_drop]
    omega
  have hchunk (n) : (afterChunks (n + 1) s).chunk = BitVec.ofNat 8 n := (afterChunk_loops 32 n (afterChunks n s)).2
  exact henter.trans (.loop (body := fun _ => chunkLines) (f := fun n => (afterChunks n s).atChunk n) (k := 255)
    (fun n hn => (hturn n (by omega)).trans (leads_nextChunk_of_lt (hchunk n) hn))
    ((hturn 255 (by omega)).trans (leads_nextChunk_last (hchunk 255))))

/-- One turn of FlashRam's loop: the request, the chunks, the marker (R98). -/
theorem lineFlashBank_of_lt {n : Nat} {s : State} (hbank : s.bank = BitVec.ofNat 16 n) (hn : n < s.ramBanks.toNat) :
    lineFlashBank s = .next (enter [.call (.selectRamBank (ramBankOperand (BitVec.ofNat 16 n))), .chunkLoop,
      .call .endBank, .nextFlashBank] s) := by
  rw [lineFlashBank, hbank, if_pos ((inRamBanks_ofNat hn.le).trans (decide_eq_true hn))]

/-- Bank `n`, up to the end of its turn (R98). -/
theorem leads_flashBank {n : Nat} {s : State} (hk : hasRamBanks s.variant = true) (hn : n < s.ramBanks.toNat)
    (hlen : 256 * 32 ≤ s.rx.length) :
    Leads Ready [.flashBank] (s.atBank n) [.nextFlashBank] (afterFlashBank n s) :=
  Leads.trans (.line fun hs => ⟨hs.running, hs, fun rest => lineFlashBank_of_lt (s := (s.atBank n).pend rest) rfl hn⟩)
    (.cons (leads_selectRam hk) (.cons (leads_chunkLoop (s := ramSelected n s) hlen)
      (.cons (leads_marker (fun _ => rfl) _) (.refl _ _ _))))

/-- The loop over the RAM banks, whole (R98). -/
theorem leads_flashBanks {s : State} (hzero : s.bank = 0) (h : hasRamBanks s.variant = true ∨ s.ramBanks.toNat = 0)
    (hlen : s.ramBanks.toNat * 8192 ≤ s.rx.length) :
    Leads Ready [.flashBank] s [] (afterFlashBanks s.ramBanks.toNat s) := by
  have hflash (n) (hn : n ≤ s.ramBanks.toNat) := flashes_banks (n := n) (h.imp_right fun h0 => by omega)
  have hkept (n) (hn : n ≤ s.ramBanks.toNat) :
      (afterFlashBanks n s).variant = s.variant ∧ (afterFlashBanks n s).ramBanks = s.ramBanks := by
    obtain ⟨-, -, hvariant, hbanks, -⟩ := kept_of_offFlash (hflash n hn).kept
    exact ⟨hvariant, hbanks⟩
  have hk (n) (hn : n < s.ramBanks.toNat) : hasRamBanks (afterFlashBanks n s).variant = true := by
    rw [(hkept n hn.le).1]
    exact h.resolve_right (by omega)
  have hcount (n) (hn : n ≤ s.ramBanks.toNat) : (afterFlashBanks n s).ramBanks.toNat = s.ramBanks.toNat := by
    rw [(hkept n hn).2]
  refine flashBankLoop.leads (f := fun n => afterFlashBanks n s) hzero hcount (fun n hn => ?_) (fun n hn => ?_)
  · rw [afterFlashBanks_succ (hk n hn), afterFlashBank_bank]
  · rw [afterFlashBanks_succ (hk n hn)]
    refine leads_flashBank (hk n hn) (hn.trans_eq (hcount n hn.le).symm) ?_
    rw [(hflash n hn.le).rx, List.length_drop]
    omega

/-- What the whole of FlashRam takes, sends and drives. -/
theorem flashes_flashRam {s : State} (h : hasRamBanks s.variant = true ∨ s.ramBanks.toNat = 0) :
    Flashes s (flashEvents s.variant s.ramBanks.toNat fun i => s.rx.getD i 0) (s.ramBanks.toNat * 8192)
      (List.replicate s.ramBanks.toNat (List.replicate 256 0xAB ++ [0xAA])).flatten (afterFlashRam s) := by
  have hstart : Flashes s [] 0 [] (s.atBank 0) := .silent rfl rfl rfl rfl rfl
  have henable := hstart.trans (flashes_write 0x0000 0x0A (s.atBank 0)) rfl rfl rfl
  have hbanks := henable.trans (flashes_banks (s := afterWrite 0x0000 0x0A (s.atBank 0)) h) rfl (Nat.zero_add _).symm rfl
  exact hbanks.trans (flashes_write 0x0000 0x00 _) rfl (Nat.add_zero _).symm (List.append_nil _).symm

/-- RAM on, the loop over the banks, RAM off (R98). -/
theorem completes_flashRam {s : State} (hs : Ready s) (h : hasRamBanks s.variant = true ∨ s.ramBanks.toNat = 0)
    (hlen : s.ramBanks.toNat * 8192 ≤ s.rx.length) : Completes .flashRam s (afterFlashRam s) := by
  have hloop := leads_flashBanks (s := afterWrite 0x0000 0x0A (s.atBank 0)) rfl h hlen
  have hlines : Leads Ready [.call .enableRam, .flashBank, .call .disableRam] (s.atBank 0) [] (afterFlashRam s) :=
    .cons (leads_controlWrite (fun _ => rfl) _) (.cons hloop (leads_controlWrite (fun _ => rfl) _))
  obtain ⟨hwork, -⟩ := kept_of_offFlash (flashes_flashRam h).kept
  exact ⟨_, rfl, hlines.reaches hs hwork⟩

/-- Settles O49: the run ends in `afterFlashRam`. -/
theorem flashRam : Obligations.FlashRam := fun _ hr hclk hdir hready h hlen =>
  completes_flashRam ⟨hr, hclk, hdir, hready⟩ (selectable_or_no_banks h) hlen

/-- Settles O50: the run of O49, and what it takes, sends and drives. -/
theorem flashRamEvents : Obligations.FlashRamEvents := by
  intro s hr hclk hdir hready h hlen hmem
  replace h := selectable_or_no_banks h
  obtain ⟨s1, hexec, hrun⟩ := completes_flashRam ⟨hr, hclk, hdir, hready⟩ h hlen
  have hwf : Memory.wf s.cbuf = true := by
    simp only [memoriesCanonical, Bool.and_eq_true] at hmem
    exact hmem.1.2
  have hflash := flashes_flashRam h
  obtain ⟨hwork, -, -, -, hbuf, hhdr, hanswers, hfsm, hfault⟩ := kept_of_offFlash hflash.kept
  exact ⟨s1, _, hexec, hrun, hflash.trace hwf, hflash.rx, hflash.tx, hbuf, hhdr, hanswers, hwork, hfsm, hfault, rfl⟩

end Sys2Proof.Machine

/-! PROOFS of the exceptions' statements (`60_exceptions.md`: R102-R104): what the fault entry records, and that the reset
alone takes the block out of `FAULT`. -/

namespace Sys2Proof.Machine

/-- Settles O5: the code recorded is `faultNumber`'s (R102), and the entry is `takeFault`. -/
theorem faultEntry : Obligations.FaultEntry := by
  intro s c
  refine ⟨faultNumber c, rfl, ?unsupported, ?cartridgeType, ?ramSize, ?romSize, rfl⟩
  all_goals
    rintro rfl
    rfl

/-- A reset that is taken is taken where no operation is in its middle, and resets the block (R114). -/
theorem next_of_exec_reset {s t : State} (h : exec .reset s = .next t) : resettable s = true ∧ t = resetBlock s :=
  have hreset : Ensures (exec .reset s) fun t => resettable s = true ∧ t = resetBlock s :=
    .ite (fun hr => .next ⟨hr, rfl⟩) fun _ => .refused _
  hreset t h

/-- A step that answers in `FAULT` was taken with `RST` asserted (R103, R104). -/
theorem rst_of_step_fault {s t : State} (hfsm : s.fsm = .fault) (h : step s = .next t) : s.rst = true := by
  by_contra hrst
  exact (running_iff.mp (running_of_step (Bool.eq_false_of_not_eq_true hrst) h)).2 hfsm

/-- Settles O6: a step that answers in `FAULT` is the reset, whose registers are those of `State.reset`. -/
theorem onlyResetEndsFault : Obligations.OnlyResetEndsFault := by
  intro s t hfsm hstep
  have hrst : s.rst = true := rst_of_step_fault hfsm hstep
  obtain ⟨-, rfl⟩ := next_of_exec_reset ((step_of_rst hrst).symm.trans hstep)
  exact ⟨hrst, rfl, rfl, rfl⟩

end Sys2Proof.Machine

/-! PROOFS of the reset's statement (`70_reset_and_hazards.md`: R114): where a reset is taken and where it is refused. -/

namespace Sys2Proof.Machine

/-- Where no operation is in its middle, the reset is taken (R114). -/
theorem exec_reset_of_resettable {s : State} (h : resettable s = true) : exec .reset s = .next (resetBlock s) := if_pos h

/-- In the middle of an operation, the reset is refused (R114). -/
theorem exec_reset_of_not_resettable {s : State} (h : resettable s = false) : exec .reset s = .refused .midRunReset :=
  if_neg (Bool.eq_false_iff.mp h)

/-- The bus is idle after a reset: every pin of the block is at its reset level (R25, R70). -/
theorem busIdle_resetBlock (s : State) : busIdle (resetBlock s) = true := (busIdle_iff _).mpr rfl

/-- Settles O3: the state answered is `resetBlock`, whose registers are those of `State.reset` and whose surroundings are
those of the state before. -/
theorem resetInstruction : Obligations.ResetInstruction :=
  ⟨fun s h => ⟨resetBlock s, exec_reset_of_resettable h, busIdle_resetBlock s,
    rfl, rfl, rfl, rfl, rfl, rfl, rfl, rfl, rfl, rfl, rfl, rfl, rfl, rfl, rfl⟩, fun _ => exec_reset_of_not_resettable⟩

end Sys2Proof.Machine

/-! PROOFS of the round trips of the encoding (`30_encoding.md`: R40-R53). A byte row's words are the match bits with
every value of the bits outside the mask, so either way round its bytes are gone through; a control write's word is an
address and a value, which its pattern gives back, and its field is the low bits of the value. -/

namespace Sys2Proof.Machine

/-! ## Words of 24 bits -/

theorem addressOf_pattern24 (a : Half) (v : Byte) : addressOf (pattern24 a v) = a := by
  unfold addressOf pattern24
  bv_omega

theorem valueOf_pattern24 (a : Half) (v : Byte) : valueOf (pattern24 a v) = v := by
  unfold valueOf pattern24
  bv_omega

theorem pattern24_addressOf_valueOf {w : Nat} (hw : w < 2 ^ 24) : pattern24 (addressOf w) (valueOf w) = w := by
  unfold pattern24 addressOf valueOf
  rw [BitVec.toNat_ofNat, BitVec.toNat_ofNat]
  omega

/-- What a format of 24-bit words makes of an address and a value. -/
def decodePattern : Format → Half → Byte → Except DecodeError Instr
  | .ramGate24, a, v => decodeRamGate a v
  | .romBank24 k, a, v => decodeRomBank k a v
  | .ramBank24 k, a, v => decodeRamBank k a v
  | _, a, v => .ok (.writeByte a v)

/-- A word of 24 bits is decoded by its two parts (R48). -/
theorem decode_pattern24 {f : Format} (hf : f.width = 24) (a : Half) (v : Byte) :
    decode f (pattern24 a v) = decodePattern f a v := by
  have hw : ¬ 2 ^ 24 ≤ pattern24 a v := (Laws.EncodeFits.pattern24_lt a v).not_ge
  cases f with
  | ramGate24 | romBank24 | ramBank24 | buswr24 =>
    simp only [decode, Format.width, hw, if_false, addressOf_pattern24, valueOf_pattern24, decodePattern]
  | _ => cases hf

/-! ## Decoding what was encoded -/

/-- Decoding the word of an operation gives the operation back. -/
def DecodesBack (i : Instr) : Prop := ∀ f w, encode i = some (f, w) → decode f w = .ok i

theorem DecodesBack.of_none {i : Instr} (h : encode i = none) : DecodesBack i := fun f w h' => by simp [h] at h'

theorem DecodesBack.of_word {i : Instr} {f : Format} {w : Nat} (h : encode i = some (f, w)) (hd : decode f w = .ok i) :
    DecodesBack i := by
  intro f' w' h'
  cases h.symm.trans h'
  exact hd

theorem DecodesBack.of_pattern {i : Instr} {f : Format} {a : Half} {v : Byte} (h : encode i = some (f, pattern24 a v))
    (hf : f.width = 24) (hd : decodePattern f a v = .ok i) : DecodesBack i :=
  .of_word h ((decode_pattern24 hf a v).trans hd)

theorem decode_shift16 (a : Half) : decode .shift16 a.toNat = .ok (.setAddress a) := by
  simp [decode, Format.width, a.isLt]

theorem decode_busrd16 (a : Half) : decode .busrd16 a.toNat = .ok (.readByte a) := by
  simp [decode, Format.width, a.isLt]

theorem decode_dbus8 (v : Byte) : decode .dbus8 v.toNat = .ok (.dbWrite v) := by
  simp [decode, Format.width, v.isLt]

/-- Every operation of the opcode table, by the kind of its words. -/
theorem decodesBack (i : Instr) (hwf : i.wf = true) : DecodesBack i := by
  cases i with
  | dbRead | toOutput | toInput | readBlock | delay | selectRomBank | selectRamBank | romOnlyRom | romOnlyRam | mbc2Ram
  | init | decodeHeader | idle | dispatch | raiseFault | reset => exact .of_none rfl
  | setAddress a => exact .of_word rfl (decode_shift16 a)
  | readByte a => exact .of_word rfl (decode_busrd16 a)
  | dbWrite v => exact .of_word rfl (decode_dbus8 v)
  | shiftBit b => cases b <;> exact .of_word rfl rfl
  | writeByte | enableRam | disableRam | mbc5RomW2 => exact .of_pattern rfl rfl rfl
  | mbc1RomW1 b | mbc2Rom b | mbc3Rom b | mbc1Ram b | mbc3Ram b | mbc5RomW1 b | mbc5Ram b =>
    exact .of_pattern rfl rfl (by revert b; decide)
  | mbc1RomW2 h => exact .of_pattern rfl rfl (by revert h; decide)
  | idleDiscard00 low | idleDiscard80 low | idleDiscardC0 low | idleDiscardC8 low | idleDiscardCC low | idleDiscardD0 low
  | idleDiscardE0 low | nop06 low | nop08 low | nop10 low | nop20 low | nop40 low | nop80 low | ctypeInvalid08 low
  | ctypeInvalid0C low | ctypeInvalid14 low | ctypeInvalid20 low | ctypeInvalid40 low | ctypeInvalid80 low
  | romszInvalid0A low | romszInvalid0C low | romszInvalid10 low | romszInvalid20 low | romszInvalid40 low
  | romszInvalid80 low | ramszInvalid06 low | ramszInvalid08 low | ramszInvalid10 low | ramszInvalid20 low
  | ramszInvalid40 low | ramszInvalid80 low => exact .of_word rfl (by revert low; decide)
  | _ => exact .of_word rfl rfl

/-- Settles O9, operation by operation. -/
theorem decodeEncode : Obligations.DecodeEncode := fun i f w hwf => decodesBack i hwf f w

/-! ## Encoding what was decoded -/

/-- The operation is well-formed, and `w` is its word, in the format `f`. -/
abbrev WordOf (f : Format) (w : Nat) (i : Instr) : Prop := i.wf = true ∧ encode i = some (f, w)

/-- The answer of a decoder, if it is an operation, is one the word stands for. -/
def Encodes (f : Format) (w : Nat) (r : Except DecodeError Instr) : Prop := ∀ i, r = .ok i → WordOf f w i

section
variable {f : Format} {w : Nat}

theorem Encodes.ok {i : Instr} (h : WordOf f w i) : Encodes f w (.ok i) := by
  rintro _ ⟨⟩
  exact h

theorem Encodes.error (e : DecodeError) : Encodes f w (.error e) := by
  rintro _ ⟨⟩

theorem Encodes.of_eq {w' : Nat} {r : Except DecodeError Instr} (hw : w = w') (h : Encodes f w r) : Encodes f w' r :=
  hw ▸ h

theorem Encodes.ite {c : Prop} [Decidable c] {r r' : Except DecodeError Instr} (h : c → Encodes f w r)
    (h' : Encodes f w r') : Encodes f w (if c then r else r') := by
  split
  next hc => exact h hc
  next => exact h'

end

/-! The rows of each byte format partition the 256 values: every byte is the word of the one row it matches. -/

theorem wordOf_decodeSync8 (b : Byte) : WordOf .sync8 b.toNat (decodeSync8 b) := by
  revert b
  decide

theorem wordOf_decodeCmd8 (b : Byte) : WordOf .cmd8 b.toNat (decodeCmd8 b) := by
  revert b
  decide

theorem wordOf_decodeCtype8 (b : Byte) : WordOf .ctype8 b.toNat (decodeCtype8 b) := by
  revert b
  decide

theorem wordOf_decodeRomsz8 (b : Byte) : WordOf .romsz8 b.toNat (decodeRomsz8 b) := by
  revert b
  decide

theorem wordOf_decodeRamsz8 (b : Byte) : WordOf .ramsz8 b.toNat (decodeRamsz8 b) := by
  revert b
  decide

/-- A value whose bits from bit `k` on are 0 is its low `k` bits. -/
theorem setWidth_setWidth_of_and {k : Nat} {v : Byte} (h : v &&& (BitVec.allOnes 8 <<< k) = 0) :
    (v.setWidth k).setWidth 8 = v := by
  ext i hi
  have hbit := congrArg (·.getLsbD i) h
  rw [BitVec.getLsbD_and, BitVec.getLsbD_shiftLeft, BitVec.getLsbD_allOnes, BitVec.getLsbD_eq_getElem hi] at hbit
  rw [BitVec.getElem_setWidth, BitVec.getLsbD_setWidth, BitVec.getLsbD_eq_getElem hi]
  cases hv : v[i] with
  | false => exact Bool.and_false _
  | true =>
    have hk : i < k := by
      by_contra hk
      simp [hv, hi, hk, Nat.sub_lt_of_lt hi] at hbit
    simp [hk]

/-- A control write whose field is the low bits of its value is given back by the value. -/
theorem wordOf_field {k : Nat} {v : Byte} {i : BitVec k → Instr} {f : Format} {a : Half}
    (h : v &&& (BitVec.allOnes 8 <<< k) = 0) (hi : ∀ b, WordOf f (pattern24 a (b.setWidth 8)) (i b)) :
    WordOf f (pattern24 a v) (i (v.setWidth k)) := by
  obtain ⟨hwf, henc⟩ := hi (v.setWidth k)
  exact ⟨hwf, by rw [henc, setWidth_setWidth_of_and h]⟩

theorem encodes_decodeTx8 (b : Byte) : Encodes .tx8 b.toNat (decodeTx8 b) := by
  unfold decodeTx8
  refine .ite ?_ (.ite ?_ (.error _))
  all_goals rintro rfl; exact .ok ⟨rfl, rfl⟩

theorem encodes_decodeRamGate (a : Half) (v : Byte) : Encodes .ramGate24 (pattern24 a v) (decodeRamGate a v) := by
  unfold decodeRamGate
  refine .ite ?_ (.ite ?_ (.error _))
  all_goals rintro ⟨rfl, rfl⟩; exact .ok ⟨rfl, rfl⟩

theorem encodes_decodeRomBank (k : Variant) (a : Half) (v : Byte) :
    Encodes (.romBank24 k) (pattern24 a v) (decodeRomBank k a v) := by
  cases k with
  | romOnly => exact .error _
  | mbc1 =>
    refine .ite ?low (.ite ?high (.error _))
    case low =>
      rintro ⟨rfl, hv⟩
      exact .ok (wordOf_field hv fun _ => ⟨rfl, rfl⟩)
    case high =>
      rintro ⟨rfl, hv, hne⟩
      have hfield : (v.setWidth 2).setWidth 8 = v := setWidth_setWidth_of_and hv
      refine .ok ⟨decide_eq_true fun h0 => hne ?_, congrArg (fun v => some (_, pattern24 _ v)) hfield⟩
      rw [← hfield, h0]
      rfl
  | mbc2 | mbc3 =>
    refine .ite ?_ (.error _)
    rintro ⟨rfl, hv⟩
    exact .ok (wordOf_field hv fun _ => ⟨rfl, rfl⟩)
  | mbc5 =>
    refine .ite ?high (.ite ?low (.error _))
    case high =>
      rintro ⟨rfl, hv⟩
      exact .ok (wordOf_field hv fun _ => ⟨rfl, rfl⟩)
    case low =>
      rintro rfl
      exact .ok ⟨rfl, rfl⟩

theorem encodes_decodeRamBank (k : Variant) (a : Half) (v : Byte) :
    Encodes (.ramBank24 k) (pattern24 a v) (decodeRamBank k a v) := by
  cases k with
  | romOnly | mbc2 => exact .error _
  | mbc1 | mbc3 | mbc5 =>
    refine .ite ?_ (.error _)
    rintro ⟨rfl, hv⟩
    exact .ok (wordOf_field hv fun _ => ⟨rfl, rfl⟩)

/-- Every word a format's width admits. -/
theorem encodes_decode {f : Format} {w : Nat} (hw : w < 2 ^ f.width) : Encodes f w (decode f w) := by
  have hword : (BitVec.ofNat f.width w).toNat = w := Nat.mod_eq_of_lt hw
  unfold decode
  rw [if_neg hw.not_ge]
  cases f with
  | sync8 => exact .of_eq hword (.ok (wordOf_decodeSync8 _))
  | cmd8 => exact .of_eq hword (.ok (wordOf_decodeCmd8 _))
  | ctype8 => exact .of_eq hword (.ok (wordOf_decodeCtype8 _))
  | romsz8 => exact .of_eq hword (.ok (wordOf_decodeRomsz8 _))
  | ramsz8 => exact .of_eq hword (.ok (wordOf_decodeRamsz8 _))
  | tx8 => exact .of_eq hword (encodes_decodeTx8 _)
  | shift16 | dbus8 | busrd16 => exact .of_eq hword (.ok ⟨rfl, rfl⟩)
  | shift1 =>
    change w < 2 at hw
    interval_cases w <;> exact .ok ⟨rfl, rfl⟩
  | ramGate24 => exact .of_eq (pattern24_addressOf_valueOf hw) (encodes_decodeRamGate _ _)
  | romBank24 k => exact .of_eq (pattern24_addressOf_valueOf hw) (encodes_decodeRomBank k _ _)
  | ramBank24 k => exact .of_eq (pattern24_addressOf_valueOf hw) (encodes_decodeRamBank k _ _)
  | buswr24 => exact .of_eq (pattern24_addressOf_valueOf hw) (.ok ⟨rfl, rfl⟩)

theorem decode_of_tooWide {f : Format} {w : Nat} (h : 2 ^ f.width ≤ w) : decode f w = .error .tooWide := by
  unfold decode
  exact if_pos h

/-- Settles O10: a word too wide is refused, and every other one is the word of what it decodes to. -/
theorem encodeDecode : Obligations.EncodeDecode := by
  intro f w
  rcases lt_or_ge w (2 ^ f.width) with hw | hw
  · exact encodes_decode hw
  · rw [decode_of_tooWide hw]
    exact Encodes.error _

/-- Settles O8, word by word. -/
theorem decodedWords : Obligations.DecodedWords := by
  unfold Obligations.DecodedWords
  and_intros
  all_goals rfl

end Sys2Proof.Machine

/-! PROOFS of the statements about what every step keeps of the block's memories and fault registers (`10_state.md`: R14,
R15, R18, R25; `60_exceptions.md`: R102, R103). What a step does to both is said once, as the relation `Holdings.Next`;
both invariants are read off it. -/

namespace Sys2Proof.Machine

/-- The block's memories and its fault registers. -/
structure Holdings where
  /-- `buf` (R14) -/
  buf : Memory
  /-- `cbuf` (R14) -/
  cbuf : Memory
  /-- `hdr` (R15) -/
  hdr : Memory
  /-- the block is in `FAULT` (R17) -/
  stopped : Bool
  /-- `fault` (R18) -/
  fault : Bool
  /-- `fault_code` (R18) -/
  faultCode : BitVec 3

/-- The memories and fault registers of a state. -/
def State.holdings (s : State) : Holdings where
  buf := s.buf
  cbuf := s.cbuf
  hdr := s.hdr
  stopped := s.fsm = .fault
  fault := s.fault
  faultCode := s.faultCode

/-- What one step can do to the memories and fault registers: nothing, a byte stored in `buf` or `cbuf`, the header's
copy, the entry of a fault, or the reset. -/
inductive Holdings.Next (o : Holdings) : Holdings → Prop where
  | kept : o.Next o
  | stored (a : Nat) (v : Byte) : o.Next { o with buf := Memory.write o.buf a v }
  | received (a : Nat) (v : Byte) : o.Next { o with cbuf := Memory.write o.cbuf a v }
  | copied (n : Nat) : o.Next { o with hdr := copyHeader o.buf n o.hdr }
  | faulted (c : FaultCode) : o.Next { o with stopped := true, fault := true, faultCode := faultNumber c }
  | reset : o.Next State.reset.holdings

/-- The answer `r`, if it is a next state, does to the holdings of `s` what one step can do. -/
abbrev Holds (s : State) (r : Out) : Prop := Ensures r fun t => s.holdings.Next t.holdings

/-! ## The shared operations -/

theorem holds_kept {s t : State} (h : t.holdings = s.holdings) : Holds s (.next t) :=
  .next (h ▸ .kept)

theorem holds_kept_or_kept {s t t' : State} {c : Prop} [Decidable c] (h : t.holdings = s.holdings)
    (h' : t'.holdings = s.holdings) : Holds s (if c then .next t else .next t') :=
  .ite (fun _ => holds_kept h) fun _ => holds_kept h'

theorem holds_takeFault (c : FaultCode) (s : State) : Holds s (.next (takeFault c s)) :=
  .next (.faulted c)

theorem holds_setPin (p : Pin) (b : Bool) (s : State) : Holds s (lineSet p b s) := by
  cases p <;> exact holds_kept rfl

/-- A running block that goes to another control state than `FAULT` is as little stopped as before. -/
theorem holdings_to_fsm {s : State} {f : Fsm} (hfsm : s.fsm ≠ .fault) (hf : f ≠ .fault) :
    { s with fsm := f }.holdings = s.holdings := by
  simp [State.holdings, hfsm, hf]

/-! ## Every line -/

theorem holds_execIdle (s : State) : Holds s (execIdle s) := by
  unfold execIdle
  exact .serRead fun _ _ => .kept

theorem holds_execDispatch {s : State} (hfsm : s.fsm ≠ .fault) : Holds s (execDispatch s) := by
  unfold execDispatch
  refine .serRead fun b rest => ?_
  have h := holdings_to_fsm (f := .exec) hfsm nofun
  exact h ▸ .kept

theorem holds_lineSendHdr (s : State) : Holds s (lineSendHdr s) := by
  unfold lineSendHdr
  exact .serWrite (by split <;> exact .kept)

theorem holds_lineSendBuf (s : State) : Holds s (lineSendBuf s) := by
  unfold lineSendBuf
  exact .serWrite (by split <;> exact .kept)

theorem holds_lineRecvByte (s : State) : Holds s (lineRecvByte s) := by
  unfold lineRecvByte
  refine .serRead fun b rest => ?_
  dsimp only
  split <;> exact .received _ b

theorem holds_lineStoreByte (a : Half) (s : State) : Holds s (lineStoreByte a s) :=
  .ite (fun _ => .next (.stored _ _)) fun _ => .next (.stored _ _)

/-- For every length at once: a plain `rfl` at 64 would evaluate the 64 memory writes. -/
theorem holdings_copyHeader (n : Nat) (s : State) :
    s.holdings.Next { s with hdr := copyHeader s.buf n s.hdr }.holdings :=
  .copied n

theorem holds_lineCopyHdr (s : State) : Holds s (lineCopyHdr s) :=
  .next (holdings_copyHeader Config.headerLen s)

/-- Every operation of the opcode table: the framer's rows change the control state, a fault is entered, the reset is
taken; every other one leaves the holdings alone. -/
theorem exec_holds (i : Instr) {s : State} (hfsm : s.fsm ≠ .fault) : Holds s (exec i s) := by
  cases i with
  | sync | idleDiscard00 | idleDiscard80 | idleDiscardC0 | idleDiscardC8 | idleDiscardCB | idleDiscardCC | idleDiscardD0
  | idleDiscardE0 => exact holds_kept (holdings_to_fsm hfsm nofun)
  | idle => exact holds_execIdle s
  | dispatch => exact holds_execDispatch hfsm
  | ackChunk | endBank => exact .serWrite .kept
  | dbWrite | dbRead | toOutput | toInput => exact .ite (fun _ => holds_kept rfl) fun _ => .refused _
  | mbc1RomW2 => exact holds_kept_or_kept rfl rfl
  | reset => exact .ite (fun _ => .next .reset) fun _ => .refused _
  | raiseFault c => exact holds_takeFault c s
  | romOnlyRom | romOnlyRam | mbc2Ram | ctypeInvalid04 | ctypeInvalid07 | ctypeInvalid08 | ctypeInvalid0C
  | ctypeInvalid0E | ctypeInvalid14 | ctypeInvalid18 | ctypeInvalid1F | ctypeInvalid20 | ctypeInvalid40 | ctypeInvalid80
  | romszInvalid09 | romszInvalid0A | romszInvalid0C | romszInvalid10 | romszInvalid20 | romszInvalid40 | romszInvalid80
  | ramszInvalid06 | ramszInvalid08 | ramszInvalid10 | ramszInvalid20 | ramszInvalid40 | ramszInvalid80 =>
    exact holds_takeFault _ s
  | _ => exact holds_kept rfl

/-- Every pending line: beside the calls one line stores a byte in `buf`, one in `cbuf`, one copies the header, and one
leaves `INIT`. -/
theorem runLine_holds (l : Task) {s : State} (hfsm : s.fsm ≠ .fault) : Holds s (runLine l s) := by
  cases l with
  | call i => exact exec_holds i hfsm
  | set p b => exact holds_setPin p b s
  | storeByte a => exact holds_lineStoreByte a s
  | recvByte => exact holds_lineRecvByte s
  | copyHdr => exact holds_lineCopyHdr s
  | toIdle => exact holds_kept (holdings_to_fsm hfsm nofun)
  | sendHdr => exact holds_lineSendHdr s
  | sendBuf => exact holds_lineSendBuf s
  | nextBit | romBank | nextRomBank | nextBlk | ramBank | nextRamBank | flashBank | nextFlashBank | nextChunk
  | nextWrite => exact holds_kept_or_kept rfl rfl
  | _ => exact holds_kept rfl

/-- What a step that answers does to the memories and fault registers. -/
theorem step_holdings {s t : State} (h : step s = .next t) : s.holdings.Next t.holdings := by
  cases hrst : s.rst with
  | true =>
    obtain ⟨-, rfl⟩ := next_of_exec_reset ((step_of_rst hrst).symm.trans h)
    exact .reset
  | false =>
    have hr := running_of_step hrst h
    have hfsm := (running_iff.mp hr).2
    cases hw : s.work with
    | nil => exact runLine_holds _ hfsm t (((step_control hr hw).trans (runControl_eq_runLine hfsm)).symm.trans h)
    | cons l ls => exact runLine_holds l (s := { s with work := ls }) hfsm t ((step_line hr hw).symm.trans h)

/-! ## The statements -/

/-- `fault` is set exactly in `FAULT`, and the code is one of R102 with a fault and 0 without. -/
def Holdings.agree (o : Holdings) : Bool :=
  (o.fault == o.stopped) && (if o.fault then 1 ≤ o.faultCode && o.faultCode ≤ 4 else o.faultCode = 0)

/-- The entry of a fault sets all three to agree, and so does the reset; nothing else touches them. -/
theorem Holdings.Next.agree {o o' : Holdings} (h : o.Next o') (ho : o.agree = true) : o'.agree = true := by
  cases h with
  | kept | stored | received | copied => exact ho
  | faulted c => cases c <;> rfl
  | reset => rfl

/-- Settles O56, by what a step can do to the fault registers. -/
theorem faultRegistersKept : Obligations.FaultRegistersKept :=
  fun _ _ hs h => (step_holdings h).agree hs

/-- The memories are in canonical form. -/
def Holdings.canonical (o : Holdings) : Bool := Memory.wf o.buf && Memory.wf o.cbuf && Memory.wf o.hdr

theorem Holdings.canonical_iff {o : Holdings} :
    o.canonical = true ↔ Memory.wf o.buf = true ∧ Memory.wf o.cbuf = true ∧ Memory.wf o.hdr = true := by
  simp [canonical, and_assoc]

/-- A write keeps the canonical form, the header's copy is made of writes, and the reset empties the memories. -/
theorem Holdings.Next.canonical {o o' : Holdings} (h : o.Next o') (ho : o.canonical = true) : o'.canonical = true := by
  obtain ⟨hbuf, hcbuf, hhdr⟩ := canonical_iff.mp ho
  cases h with
  | kept | faulted => exact ho
  | stored a v => exact canonical_iff.mpr ⟨Memory.write_wf a v hbuf, hcbuf, hhdr⟩
  | received a v => exact canonical_iff.mpr ⟨hbuf, Memory.write_wf a v hcbuf, hhdr⟩
  | copied n => exact canonical_iff.mpr ⟨hbuf, hcbuf, copyHeader_wf n hhdr⟩
  | reset => exact reset_memories

/-- Settles O57, by what a step can do to the memories. -/
theorem memoriesCanonicalKept : Obligations.MemoriesCanonicalKept :=
  fun _ _ hs h => (step_holdings h).canonical hs

/-- Settles O58: at reset nothing is pending, the bus is idle, there is no fault and the memories are empty. -/
theorem invariantsAtReset : Obligations.InvariantsAtReset :=
  ⟨rfl, rfl, rfl, reset_memories⟩

end Sys2Proof.Machine

/-! PROOFS of the serial link's statement (`45_command_framer.md`: R100), of the rows of one event or none
(`30_encoding.md`: R40-R44, R51-R53; `44_header_decoder.md`: R87-R89) and of the event counts (R55, R65, R66, R126). -/

namespace Sys2Proof.Machine

/-! ## Where the machine waits -/

/-- What the state is like where the machine stops for the reason `r` (R100, R103). -/
def Fault.Explains (s : State) : Fault → Prop
  | .serialReadWait => s.rx = []
  | .serialWriteWait => s.txReady = false
  | .stopped => s.fsm = .fault

/-- The answer, where it is a wait or a stop, is explained by the state. -/
def Explained (s : State) : Out → Prop
  | .fault r => r.Explains s
  | _ => True

theorem Explained.ite {s : State} {c : Prop} [Decidable c] {r r' : Out} (h : Explained s r) (h' : Explained s r') :
    Explained s (if c then r else r') := by
  split
  · exact h
  · exact h'

theorem explained_serRead (s : State) (k : Byte → State → State) : Explained s (serRead s k) := by
  unfold serRead
  split
  next hrx => exact hrx
  next => trivial

theorem serWrite_wait {s : State} (b : Byte) (k : State → State) (h : s.txReady = false) :
    serWrite b s k = .fault .serialWriteWait := by
  simp [serWrite, h]

theorem explained_serWrite (b : Byte) (s : State) (k : State → State) : Explained s (serWrite b s k) := by
  cases h : s.txReady with
  | true => exact serWrite_ready b k h ▸ trivial
  | false => exact serWrite_wait b k h ▸ h

/-- Of the operations of the opcode table only those that begin with a serial byte can wait. -/
theorem exec_explained (i : Instr) (s : State) : Explained s (exec i s) := by
  cases i with
  | idle => exact explained_serRead s _
  | dispatch =>
    change Explained s (execDispatch s)
    unfold execDispatch
    exact explained_serRead s _
  | ackChunk | endBank => exact explained_serWrite _ s _
  | dbWrite | dbRead | toOutput | toInput | mbc1RomW2 | reset => exact .ite trivial trivial
  | _ => exact trivial

theorem runLine_explained (l : Task) (s : State) : Explained s (runLine l s) := by
  cases l with
  | call i => exact exec_explained i s
  | recvByte =>
    change Explained s (lineRecvByte s)
    unfold lineRecvByte
    exact explained_serRead s _
  | sendHdr | sendBuf => exact explained_serWrite _ s _
  | nextBit | storeByte | romBank | nextRomBank | nextBlk | ramBank | nextRamBank | flashBank | nextFlashBank
  | nextChunk | nextWrite => exact .ite trivial trivial
  | _ => exact trivial

theorem runControl_explained (s : State) : Explained s (runControl s) := by
  unfold runControl
  cases hfsm : s.fsm with
  | init => exact exec_explained .init s
  | idle => exact exec_explained .idle s
  | dispatch => exact exec_explained .dispatch s
  | exec => exact trivial
  | fault => exact hfsm

theorem runBlock_explained (s : State) : Explained s (runBlock s) := by
  unfold runBlock
  split
  next hfsm => exact hfsm
  next =>
    cases s.work with
    | nil => exact runControl_explained s
    | cons l ls => exact runLine_explained l { s with work := ls }

theorem step_explained {s : State} {r : Fault} (h : step s = .fault r) : r.Explains s := by
  have hstep : Explained s (step s) := .ite (exec_explained .reset s) (runBlock_explained s)
  rwa [h] at hstep

theorem execIdle_wait {s : State} (h : s.rx = []) : execIdle s = .fault .serialReadWait := serRead_wait _ h

theorem execDispatch_wait {s : State} (h : s.rx = []) : execDispatch s = .fault .serialReadWait := by
  unfold execDispatch
  exact serRead_wait _ h

theorem lineRecvByte_wait {s : State} (h : s.rx = []) : lineRecvByte s = .fault .serialReadWait := by
  unfold lineRecvByte
  exact serRead_wait _ h

/-- A block whose next line is a serial one that cannot go on does wait (R100). -/
theorem step_of_waiting {s : State} (hr : running s = true) (hw : waiting s = true) :
    step s = .fault .serialReadWait ∨ step s = .fault .serialWriteWait := by
  unfold waiting at hw
  split at hw
  case h_1 hwork | h_2 hwork | h_3 hwork | h_4 hwork =>
    exact .inr ((step_line hr hwork).trans (serWrite_wait _ _ (by simpa using hw)))
  case h_5 hwork => exact .inl ((step_line hr hwork).trans (lineRecvByte_wait (List.isEmpty_iff.mp hw)))
  case h_6 => cases hw

/-- Settles O7: every wait and stop of a line is explained by the state, and a serial line that cannot go on waits. -/
theorem serialStall : Obligations.SerialStall :=
  ⟨fun _ => step_explained, fun _ => step_explained, fun _ => step_explained,
    fun _ h => ⟨execIdle_wait h, execDispatch_wait h⟩, fun _ h => ⟨serWrite_wait _ _ h, serWrite_wait _ _ h⟩,
    fun _ => step_of_waiting⟩

/-! ## Rows of one event or none -/

/-- Settles O18: each marker is one `SerWrite` with nothing behind it. -/
theorem markersSent : Obligations.MarkersSent :=
  fun _ h => ⟨serWrite_ready Config.ackChunkByte id h, serWrite_ready Config.endBankByte id h⟩

/-- Settles O15: each accepted row is `setVariant`, each other one the entry of Fault(2). -/
theorem cartridgeTypeEachRow : Obligations.CartridgeTypeEachRow := by
  intro s
  and_intros
  all_goals intros; rfl

/-- Settles O16: each accepted row is `setRomBanks` or `setRamBanks`, each other one the entry of a fault. -/
theorem sizeCodeEachRow : Obligations.SizeCodeEachRow := by
  intro s
  and_intros
  all_goals intros; rfl

/-- Settles O17: each row changes the control state or nothing. -/
theorem framerEachRow : Obligations.FramerEachRow := by
  intro s
  and_intros
  all_goals intros; rfl

/-! ## Event counts -/

/-- Three events for each of the sixteen bits, between the latch's two edges (R55). -/
theorem length_addressEvents (a : Half) : (addressEvents a).length = 50 := by
  simp [addressEvents]

theorem delayTotal_append (es es' : List Event) : delayTotal (es ++ es') = delayTotal es + delayTotal es' := by
  induction es with
  | nil => exact (Nat.zero_add _).symm
  | cons e es ih => cases e <;> simp [delayTotal, ih, Nat.add_assoc]

/-- An address frame has no delay (R55). -/
theorem delayTotal_addressEvents (a : Half) : delayTotal (addressEvents a) = 0 := rfl

theorem length_readEvents (a : Half) (v : Byte) (cfg : Config.Params) :
    (readEvents a v cfg).length = if 0 < cfg.tRdSettle then 55 else 54 := by
  simp only [readEvents, readPrefix, List.length_append, length_addressEvents]
  split <;> rfl

theorem length_writeEvents (a : Half) (v : Byte) : (writeEvents a v).length = 59 := by
  simp [writeEvents, length_addressEvents]

/-- The two delays of a write, the setup and the pulse (R66, R126). -/
theorem delayTotal_writeEvents (a : Half) (v : Byte) : delayTotal (writeEvents a v) = 4000000 := by
  simp [writeEvents, delayTotal, delayTotal_append, delayTotal_addressEvents, Config.tWrSetup, Config.tWrPulse]

/-- Settles O30: an address frame counted once, and what a read and a write add to it. -/
theorem eventCounts : Obligations.EventCounts :=
  ⟨length_addressEvents, length_readEvents, fun a v => ⟨length_writeEvents a v, delayTotal_writeEvents a v⟩⟩

end Sys2Proof.Machine

/-! PROOFS of the statements about control writes, the frame of a NoOp and the dumps (`43_mbc_translator.md`: R77-R84;
`45_command_framer.md`: R92-R98). What a dump sends and takes off the queue of answers is said by the relation `Dumps`.
A command that requests a bank its variant does not have is followed line by line up to the fault. -/

namespace Sys2Proof.Machine

/-! ## The control writes -/

/-- Settles O35: every row is a control write, MBC1's upper one where its field is not zero. -/
theorem controlWrites : Obligations.ControlWrites := by
  intro s hr hclk hdir
  have hwrite {i : Instr} {a : Half} {v : Byte} (hi : exec i s = controlWrite a v s) : MakesWrite i a v s :=
    makesWrite_of_controlWrite hr hclk hdir hi
  exact ⟨fun _ => hwrite rfl, fun _ h => hwrite (exec_mbc1RomW2_of_upperBitsSet (decide_eq_true h) s), rfl,
    fun _ => hwrite rfl, fun _ => hwrite rfl, fun _ => hwrite rfl, fun _ => hwrite rfl, fun _ => hwrite rfl,
    fun _ => hwrite rfl, fun _ => hwrite rfl⟩

/-! ## The frame of a NoOp -/

/-- With no line pending the control state's operation is what a step runs (R17). -/
theorem Reaches.control {s t u : State} {i : Instr} (hr : running s = true) (hw : s.work = [])
    (hl : controlLine s.fsm = .call i) (h : exec i s = .next t) (r : Reaches t u) : Reaches s u := by
  refine .head ?_ r
  rw [step_control hr hw, runControl_eq_runLine (running_iff.mp hr).2, hl]
  exact h

/-- A command that has run out goes back to `IDLE`, then a run (R93). -/
theorem Reaches.commandEnd {s u : State} (hr : running s = true) (hw : s.work = []) (hfsm : s.fsm = .exec)
    (r : Reaches { s with fsm := .idle } u) : Reaches s u := by
  refine .head ?_ r
  rw [step_control hr hw, runControl, hfsm]
  rfl

/-- Settles O43: the sync byte is scanned, the command byte dispatched, and its row does nothing. -/
theorem noOpFrame : Obligations.NoOpFrame := by
  intro s b r hr hfsm hwork hrx h0 h1 h2 h4
  have hrst : s.rst = false := (running_iff.mp hr).1
  obtain ⟨s1, hscan, hsync⟩ := idleScan s 0xCA (b :: r) hr hrx
  refine .control hr hwork (hfsm ▸ rfl) hscan (hsync.trans ?_)
  obtain ⟨i, hdispatch, -, -, -, -, hnoop⟩ := dispatchCommand
    { s with rx := b :: r, fsm := .dispatch, trace := .rx 0xCA :: s.trace } b r rfl
  have hr' {f : Fsm} (hf : f ≠ .fault) : running { s with fsm := f } = true := running_iff.mpr ⟨hrst, hf⟩
  refine .control (hr' (f := .dispatch) nofun) hwork rfl hdispatch ?_
  refine .line (hr' (f := .exec) nofun) rfl (hnoop h0 h1 h2 h4 _) ?_
  exact .commandEnd (hr' (f := .exec) nofun) hwork rfl (.of_eq (by rw [← hfsm]))

/-! ## What a dump sends -/

/-- A stretch of a dump from `s` to `t` takes `n` answers off the queue and, with `buf` in canonical form and that many
answers there, sends them in their order (R96). -/
structure Dumps (s : State) (n : Nat) (t : State) : Prop where
  answers : t.answers = s.answers.drop n
  buf : Memory.wf s.buf = true → Memory.wf t.buf = true
  tx : Memory.wf s.buf = true → n ≤ s.answers.length → t.tx = s.tx ++ s.answers.take n

theorem Dumps.trans {s t u : State} {n m : Nat} (h : Dumps s n t) (h' : Dumps t m u) : Dumps s (n + m) u where
  answers := by rw [h'.answers, h.answers, List.drop_drop]
  buf hwf := h'.buf (h.buf hwf)
  tx hwf hlen := by
    have hrest : m ≤ t.answers.length := by rw [h.answers, List.length_drop]; omega
    rw [h'.tx (h.buf hwf) hrest, h.tx hwf (by omega), h.answers, List.take_add, List.append_assoc]

/-- A stretch that neither reads nor sends. -/
theorem Dumps.silent {s t : State} (hans : t.answers = s.answers) (hbuf : t.buf = s.buf) (htx : t.tx = s.tx) :
    Dumps s 0 t :=
  ⟨hans, fun hwf => hbuf ▸ hwf, fun _ _ => htx.trans (List.append_nil _).symm⟩

/-- A block takes 512 answers, which `buf` then holds (R33, R67). -/
theorem afterBlock_buf (a : Half) (s : State) :
    (afterBlock a s).answers = s.answers.drop 512
      ∧ (Memory.wf s.buf = true → Memory.wf (afterBlock a s).buf = true)
      ∧ (Memory.wf s.buf = true → 512 ≤ s.answers.length →
        bytesOf (afterBlock a s).buf 512 = s.answers.take 512) := by
  have hans := afterBytes_answers a 512 s
  have hwf := afterBytes_buf_wf a 512 (s := s)
  have hbytes := bytesOf_afterBytes a (n := 512) (s := s)
  unfold afterBlock
  generalize afterBytes a 512 s = u at *
  exact ⟨hans, hwf, hbytes⟩

/-- A block is read whole, then sent whole (R96). -/
theorem dumps_block (a : Half) (s : State) : Dumps s 512 (afterDumpBlock a s) := by
  obtain ⟨hans, hwf, hbytes⟩ := afterBlock_buf a s
  obtain ⟨-, -, -, htx, -⟩ := afterBlock_frame a s
  unfold afterDumpBlock
  generalize afterBlock a s = u at hans hwf hbytes htx
  exact ⟨hans, hwf, fun h hlen => by rw [afterSends, hbytes h hlen, htx]⟩

theorem dumps_blocks (base : Half) (n : Nat) (s : State) : Dumps s (n * 512) (afterDumpBlocks base n s) := by
  induction n with
  | zero => exact .silent rfl rfl rfl
  | succ n ih =>
    have hblk : Dumps (afterDumpBlocks base n s) 0 ((afterDumpBlocks base n s).atBlk n) := .silent rfl rfl rfl
    rw [afterDumpBlocks_succ, Nat.succ_mul]
    exact ih.trans (.trans hblk (dumps_block _ _))

theorem dumps_selectRom {k : Variant} (hk : k ≠ .romOnly) (n : Half) (s : State) :
    Dumps s 0 (afterSelectRom k n s) := by
  obtain ⟨a, v, h⟩ | ⟨a, v, b, w, h⟩ := afterSelectRom_writes hk n
  all_goals rw [h]; exact .silent rfl rfl rfl

/-- A bank is 32 blocks, the request before them reads and sends nothing (R96). -/
theorem dumps_romBank (n : Nat) {s : State} (hv : s.variant ≠ .romOnly) : Dumps s 16384 (afterRomBank n s) := by
  have hbank : Dumps s 0 (s.atBank n) := .silent rfl rfl rfl
  unfold afterRomBank
  split
  next h0 =>
    subst h0
    exact hbank.trans (dumps_blocks 0x0000 32 (s.atBank 0))
  next => exact hbank.trans (.trans (dumps_selectRom hv _ _) (dumps_blocks 0x4000 32 _))

theorem dumps_romBanks (n : Nat) {s : State} (hv : s.variant ≠ .romOnly) :
    Dumps s (n * 16384) (afterRomBanks n s) := by
  induction n with
  | zero => exact .silent rfl rfl rfl
  | succ n ih =>
    obtain ⟨-, -, hvariant, -⟩ := kept_of_offDump (afterRomBanks_kept n hv)
    rw [afterRomBanks, Nat.succ_mul]
    exact ih.trans (dumps_romBank n (hvariant ▸ hv))

/-- Settles O46: the run of O45, and what it takes and sends. -/
theorem dumpRomSends : Obligations.DumpRomSends := by
  intro s bs rest hr hclk hdir hready hv hmem hlen hans
  obtain ⟨s1, hexec, hrun⟩ := dumpRom s hr hclk hdir hready hv
  have hdumps := dumps_romBanks s.romBanks.toNat hv
  have hkept := afterRomBanks_kept s.romBanks.toNat hv
  simp only [memoriesCanonical, Bool.and_eq_true] at hmem
  obtain ⟨⟨hbuf, -⟩, -⟩ := hmem
  rw [← hlen] at hdumps
  have htx := hdumps.tx hbuf (by simp [hans])
  rw [hans, List.take_left] at htx
  have hrest := hdumps.answers
  rw [hans, List.drop_left] at hrest
  exact ⟨s1, _, hexec, hrun, htx, hrest, (congrArg State.rx hkept :), (congrArg State.hdr hkept :),
    (congrArg State.cbuf hkept :), (congrArg State.work hkept :), (congrArg State.fsm hkept :)⟩

/-! ## Requests of a bank the variant does not have -/

/-- A request whose one line is a row of Fault(1) (R75, R76, R80). -/
theorem Reaches.unsupported {s : State} {i j : Instr} {ls ls' : List Task} (hr : running s = true)
    (hw : s.work = .call i :: ls) (hi : exec i { s with work := ls } = .next (enter ls' { s with work := ls }))
    (hls' : ls' = [.call j]) (hj : ∀ u, exec j u = .next (takeFault .unsupportedOperation u)) :
    Reaches s (takeFault .unsupportedOperation s) := by
  subst hls'
  exact .line hr hw hi (.line hr rfl (hj _) (.refl _))

/-- A ROM request on a RomOnly cartridge (R75). -/
theorem Reaches.romUnsupported {s : State} {n : Half} {ls : List Task} (hr : running s = true)
    (hw : s.work = .call (.selectRomBank n) :: ls) (hv : s.variant = .romOnly) :
    Reaches s (takeFault .unsupportedOperation s) :=
  .unsupported (j := .romOnlyRom n) (ls' := romSelectLines s.variant n) hr hw rfl (hv ▸ rfl) fun _ => rfl

/-- A RAM request where the variant has no RAM bank to select (R76, R80). -/
theorem Reaches.ramUnsupported {s : State} {n : Byte} {ls : List Task} (hr : running s = true)
    (hw : s.work = .call (.selectRamBank n) :: ls) (hk : hasRamBanks s.variant = false) :
    Reaches s (takeFault .unsupportedOperation s) := by
  have hrow (j : Instr) (hls' : ramSelectLines s.variant n = [.call j])
      (hj : ∀ u, exec j u = .next (takeFault .unsupportedOperation u)) := Reaches.unsupported hr hw rfl hls' hj
  cases hv : s.variant with
  | romOnly => exact hrow (.romOnlyRam n) (hv ▸ rfl) fun _ => rfl
  | mbc2 => exact hrow (.mbc2Ram n) (hv ▸ rfl) fun _ => rfl
  | mbc1 | mbc3 | mbc5 =>
    rw [hv] at hk
    cases hk

theorem afterRomBank_zero (s : State) : afterRomBank 0 s = afterDumpBlocks 0x0000 32 (s.atBank 0) := if_pos rfl

/-- Bank 0 of a dump needs no request, whatever the variant (R96). -/
theorem leads_romBank_zero {s : State} (h : 0 < s.romBanks.toNat) :
    Leads Ready [.romBank] (s.atBank 0) [.nextRomBank] (afterRomBank 0 s) := by
  have hline (rest) := lineRomBank_of_lt (n := 0) (s := (s.atBank 0).pend rest) rfl h
  rw [afterRomBank_zero]
  refine Leads.trans (.line fun hs => ⟨hs.running, hs, hline⟩) ?_
  exact (leads_blkLoop 0x0000 31 (s.atBank 0)).append [.nextRomBank]

/-- On a RomOnly cartridge the turn of a bank other than 0 ends with its request (R75, R96). -/
theorem reaches_romBankUnsupported {s : State} {n : Nat} (hr : running (s.atBank n) = true) (hv : s.variant = .romOnly)
    (h0 : n ≠ 0) (hn : n < s.romBanks.toNat) (ls : List Task) :
    Reaches ((s.atBank n).pend (.romBank :: ls)) (takeFault .unsupportedOperation (s.atBank n)) := by
  have hline := lineRomBank_of_lt (s := (s.atBank n).pend ls) rfl hn
  rw [if_neg h0] at hline
  exact .line hr rfl hline (.romUnsupported hr rfl hv)

theorem afterRomBank_zero_kept (s : State) :
    (afterRomBank 0 s).offDump = s.offDump ∧ (afterRomBank 0 s).bank = BitVec.ofNat 16 0 := by
  rw [afterRomBank_zero]
  exact afterDumpBlocks_kept 0x0000 32 (s.atBank 0)

/-- Settles O47: bank 0, then the turn of bank 1 up to its request. -/
theorem dumpRomRomOnly : Obligations.DumpRomRomOnly := by
  intro s hr hclk hdir hready hv hbanks
  obtain ⟨hkept, hbank⟩ := afterRomBank_zero_kept s
  obtain ⟨-, -, hvariant, hcount, -⟩ := kept_of_offDump hkept
  have hlt : 1 < (afterRomBank 0 s).romBanks.toNat := by rw [hcount]; exact hbanks
  have hzero := (leads_romBank_zero (by omega)).trans (romBankLoop.leads_next (n := 0) hbank hlt)
  obtain ⟨⟨hru, -⟩, hrun⟩ := hzero ⟨hr, hclk, hdir, hready⟩
  exact ⟨_, rfl, (hrun s.work).trans (reaches_romBankUnsupported hru (hvariant.trans hv) one_ne_zero hlt s.work)⟩

/-- A command that enables RAM and then requests a RAM bank its variant does not have (R97, R98). -/
theorem reaches_ramUnsupported {s : State} {head : Task} {ls ls' : List Task} (hr : running s = true)
    (hclk : s.srClk = false) (hdir : s.dir = .input) (hk : hasRamBanks s.variant = false)
    (hhead : ∀ u : State, u.bank = 0 → u.ramBanks = s.ramBanks →
      runLine head u = .next (enter (.call (.selectRamBank (ramBankOperand 0)) :: ls') u)) :
    Reaches (enter (.call .enableRam :: head :: ls) (s.atBank 0))
      (takeFault .unsupportedOperation (afterWrite 0x0000 0x0A (s.atBank 0))) :=
  .controlWrite hr hclk hdir rfl rfl (.line hr rfl (hhead _ rfl rfl) (.ramUnsupported hr rfl hk))

/-- Settles O51: RAM on, then the turn of bank 0 up to its request. -/
theorem ramCommandsUnsupported : Obligations.RamCommandsUnsupported := by
  intro s i hi hr hclk hdir hk hbanks
  have hlt : 0 < s.ramBanks.toNat := Nat.pos_of_ne_zero fun h0 => hbanks (BitVec.eq_of_toNat_eq h0)
  obtain rfl | rfl := hi
  · exact ⟨_, rfl, reaches_ramUnsupported hr hclk hdir hk fun u hbank hcount =>
      lineRamBank_of_lt (n := 0) hbank (hcount ▸ hlt)⟩
  · exact ⟨_, rfl, reaches_ramUnsupported hr hclk hdir hk fun u hbank hcount =>
      lineFlashBank_of_lt (n := 0) hbank (hcount ▸ hlt)⟩

end Sys2Proof.Machine
